-- ==== Sys2Proof/Word.lean ====
section
/-! DEFINITION. The words the TL640 handles as bits: telegram bytes, two-byte and four-byte fields, and the
four-bit fields of a telegram header (spec/01 section 1.2). Quantities in units (speeds, pressures, offsets) are
`Int`, since the manual computes them exactly and clamps them by rule (spec/00, "Rounding"). -/

namespace Sys2Proof

/-- One telegram byte. -/
abbrev Byte := BitVec 8

/-- A four-bit header field: a telegram kind, a source or a target. -/
abbrev Nibble := BitVec 4

/-- A two-byte telegram field; also a period number, which wraps at 65536 (spec/00, "Period numbers"). -/
abbrev Half := BitVec 16

/-- A four-byte telegram field; also a duty counter value (R149). -/
abbrev Quad := BitVec 32

/-- The high and the low byte of a two-byte field, high byte first as on the line. -/
def halfBytes (h : Half) : List Byte := [h.extractLsb' 8 8, h.extractLsb' 0 8]

/-- The two-byte field two line bytes form, high byte first. -/
def ofBytes2 (hi lo : Byte) : Half := hi ++ lo

/-- The bytes of a four-byte field, high byte first. -/
def quadBytes (q : Quad) : List Byte :=
  [q.extractLsb' 24 8, q.extractLsb' 16 8, q.extractLsb' 8 8, q.extractLsb' 0 8]

/-- The four-byte field four line bytes form, high byte first. -/
def ofBytes4 (a b c d : Byte) : Quad := (a ++ b : BitVec 16) ++ (c ++ d : BitVec 16)

end Sys2Proof
end

