-- ==== Sys2Proof/Config.lean ====
section
/-! DEFINITION. What the part fixes by its own clocking, and the free values: constants without a body for what the
spec leaves open. Nothing can prove what a free value is, so a claim holds whatever it is. -/

namespace Sys2Proof.Config

/-- One bit time of the frame line in µs: 500 kbit/s (R1). -/
def bitTime : Nat := 2

/-- The idle time in µs after which the line is free: twelve bit times (R1). -/
def freeIdle : Nat := 12 * bitTime

/-- FREE VALUE (log 10). The arbitration mode (coded 0, 1, 2 as in spec/01 section 1.2) that a follower takes when
its leader's REPORT carries a mode code above 2: R107 states no mode for such a code. -/
opaque unstatedModeCode : Byte → Fin 3

/-- FREE VALUE (log 11). The used tilt of one axis when R115's formula would leave −20000 to +20000 because the peer
reported a tilt outside that range; arguments: own tilt and reported tilt. -/
opaque unstatedTilt : Int → Int → Int

/-- FREE VALUE (log 11). The averaged offset of one axis when R120's formula would leave −32000 to +32000 because the
peer reported an offset outside that range; arguments: own offset and reported offset. -/
opaque unstatedOffset : Int → Int → Int

/-- FREE VALUE (log 12). Whether a settled station that reads the invalid role code 3 at a RESTART keeps its settled
flag: R162 speaks of reading another role, and code 3 is no role (R159). -/
opaque invalidRoleKeepsSettled : Bool

end Sys2Proof.Config
end

