-- ==== Sys2Proof/Syntax.lean ====
section
/-! DEFINITION. The commands of the TL640, one constructor for each row of spec/opcode_table.json, and the types of
their operands. A telegram command carries its source, its target and its payload fields as they stand on the line. -/

namespace Sys2Proof

/-- The level of a pulse terminal (R55). -/
inductive Level where
  | low | high
  deriving DecidableEq, Repr

/-- The two pulse inputs (spec/04 section 4.1). -/
inductive PulseInput where
  | first | second
  deriving DecidableEq, Repr

/-- The three roles a role strap selects (R159). -/
inductive Role where
  | wheel | steer | ret
  deriving DecidableEq, Repr

/-- The side strap: `zero` is LEFT or FACE A, `one` is RIGHT or FACE B (R159). -/
inductive Side where
  | zero | one
  deriving DecidableEq, Repr

/-- The strap pins as they stand at a strap reading (R159, spec/10 section 10.7). -/
structure Straps where
  number : Nibble
  role : BitVec 2
  side : Side
  deriving DecidableEq, Repr

/-- What brings power-on reset on (R168). -/
inductive ResetCause where
  /-- The supply rises from off. -/
  | supplyRise
  /-- The supply falls below 16 V while running. -/
  | supplyDip
  /-- The reset pin is driven low. -/
  | resetPin
  deriving DecidableEq, Repr

/-- What ends a cause of power-on reset (R168). -/
inductive ReleaseCause where
  /-- The supply has stood above 18 V for 20 ms without a break. -/
  | supplyStood
  /-- The reset pin is released and goes high. -/
  | pinHigh
  deriving DecidableEq, Repr

/-- The ten fields of a DEMAND payload, raw (spec/01 section 1.2, R165). -/
structure DemandFields where
  mode : Byte
  direction : Byte
  baseSpeed : Half
  targetX : Half
  targetY : Half
  depth : Half
  rate : Half
  densityLimit : Half
  freshDensity : Half
  offsetReset : Byte
  deriving DecidableEq, Repr

/-- The station states a REPORT may carry (spec/01 section 1.2, R5). -/
inductive ReportedState where
  | setup | configFault | ready | active
  deriving DecidableEq, Repr

/-- The WHEEL role part of a REPORT, offsets 7 to 20. -/
structure WheelPart where
  speed1 : Half
  speed2 : Half
  pairSpeed : Half
  pressure : Half
  loop : Byte
  mode : Byte
  inEffect : Half
  drive : Half
  deriving DecidableEq, Repr

/-- The STEER role part of a REPORT, offsets 7 to 23. -/
structure SteerPart where
  tiltX : Half
  tiltY : Half
  offX : Half
  offY : Half
  flapL : Half
  flapR : Half
  posL : Half
  posR : Half
  fusion : Byte
  deriving DecidableEq, Repr

/-- The RETURN role part of a REPORT, offsets 7 to 20. -/
structure ReturnPart where
  flow : Half
  density : Half
  suction : Half
  output : Half
  target : Half
  trim : Half
  state : Byte
  cavitating : Byte
  deriving DecidableEq, Repr

/-- The role part of a REPORT: absent for SETUP, the failing check for CONFIG FAULT, else by role. -/
inductive RolePart where
  | none
  | configFault (check : Byte)
  | wheel (p : WheelPart)
  | steer (p : SteerPart)
  | ret (p : ReturnPart)
  deriving DecidableEq, Repr

/-- The content of a REPORT (spec/01 section 1.2). -/
structure Report where
  station : ReportedState
  mode : Byte
  role : Role
  side : Side
  isolated : Bool
  frozen : Bool
  leader : Bool
  flags : Half
  sample : Half
  part : RolePart
  deriving DecidableEq, Repr

/-- The commands: one constructor for each row of spec/opcode_table.json. -/
inductive Instr where
  /-- POWER_ON_RESET (R168): a cause of power-on reset begins. -/
  | powerOnReset (cause : ResetCause)
  /-- RESET_RELEASE (R168): a cause ends; `straps` are the pins as they stand then. -/
  | resetRelease (cause : ReleaseCause) (straps : Straps)
  /-- FILTER_SAMPLE (R55): the filter of a pulse input takes a sample. -/
  | filterSample (input : PulseInput) (level : Level)
  /-- ANALOG_CONVERSION (R63): a conversion of input A0 to A3 completes. -/
  | analogConversion (input : Fin 4) (raw : BitVec 12)
  /-- PERIOD_TIMER_EXPIRY (R24): the period timer runs out. -/
  | periodTimerExpiry
  /-- ATTEMPT_START (R6): the line is free, no other start bit has been seen, and the station looks at its list. -/
  | attemptStart
  /-- ATTEMPT_OUTBID (R7): a dominant bit is read where a recessive one was sent in byte 0. -/
  | attemptOutbid
  /-- ATTEMPT_FAILED (R8): any other read-back mismatch. -/
  | attemptFailed
  /-- ATTEMPT_SENT (R9): every byte up to the second check byte has read back as sent. -/
  | attemptSent
  /-- BAD_TELEGRAM (R16): a received telegram with a framing error, a bad check or an unassigned kind. -/
  | badTelegram
  /-- MALFORMED_TELEGRAM (R5): a received telegram whose length does not match its kind or content. -/
  | malformedTelegram
  /-- TELEGRAM_HEARD (R17): a valid telegram handed to no block. -/
  | telegramHeard (source : Nibble)
  /-- CLASH_ENTRY (R19): a valid telegram bearing the station's own number as source. -/
  | clashEntry
  /-- MARK (R26): a valid MARK telegram is received. -/
  | mark (source target : Nibble) (period : Half)
  /-- COMPUTE_POINT (R31): the compute timer runs out. -/
  | computePoint
  /-- COUNT_HALT (R154): a valid COUNT HALT telegram is received. -/
  | countHalt (source target : Nibble) (index : Byte)
  /-- COUNT_THAW (R155): a valid COUNT THAW telegram is received. -/
  | countThaw (source target : Nibble)
  /-- DEMAND (R164): a valid DEMAND telegram is received. -/
  | demand (source target : Nibble) (fields : DemandFields)
  /-- REPORT (R43): a valid REPORT telegram is received. -/
  | report (source target : Nibble) (content : Report)
  /-- FLAG_CLEAR (R173): a valid FLAG CLEAR telegram is received. -/
  | flagClear (source target : Nibble) (codes : Half)
  /-- COUNT_LOAD (R156): a valid COUNT LOAD telegram is received. -/
  | countLoad (source target : Nibble) (index : Byte) (value : Quad)
  /-- COUNT_QUERY (R157): a valid COUNT QUERY telegram is received. -/
  | countQuery (source target : Nibble) (index : Byte)
  /-- SETUP (R161): a valid SETUP telegram is received. -/
  | setup (source target : Nibble) (param : Byte) (value : Half)
  /-- SETUP_CLOSE (R162): a valid SETUP CLOSE telegram is received. -/
  | setupClose (source target : Nibble)
  /-- RESTART (R167): a valid RESTART telegram is received; `straps` are the pins as they stand then. -/
  | restart (source target : Nibble) (straps : Straps)
  deriving DecidableEq, Repr

end Sys2Proof
end

