-- ==== Sys2Proof/WellFormed.lean ====
section
/-! DEFINITION. Which commands can come from the line: a telegram's source is 0 to 14 (spec/01 section 1.2), and a
REPORT carries the role part of its station state and role (R5). -/

namespace Sys2Proof

/-- The source field of a telegram is 0 to 14 (spec/01 section 1.2, header table). -/
def sourceOk (source : Nibble) : Bool := source != 15#4

/-- A REPORT carries the part that its station state and role call for: the lengths 7, 8, 21 and 24 of R5. -/
def Report.wellFormed (r : Report) : Bool :=
  match r.station, r.role, r.part with
  | .setup, _, .none => true
  | .configFault, _, .configFault _ => true
  | .ready, .wheel, .wheel _ => true
  | .active, .wheel, .wheel _ => true
  | .ready, .steer, .steer _ => true
  | .active, .steer, .steer _ => true
  | .ready, .ret, .ret _ => true
  | .active, .ret, .ret _ => true
  | _, _, _ => false

/-- The command can be read from the line or comes from the station's own terminals and timers. -/
def Instr.wellFormed (i : Instr) : Bool :=
  match i with
  | .powerOnReset _ => true
  | .resetRelease _ _ => true
  | .filterSample _ _ => true
  | .analogConversion _ _ => true
  | .periodTimerExpiry => true
  | .attemptStart => true
  | .attemptOutbid => true
  | .attemptFailed => true
  | .attemptSent => true
  | .badTelegram => true
  | .malformedTelegram => true
  | .telegramHeard source => sourceOk source
  | .clashEntry => true
  | .mark source _ _ => sourceOk source
  | .computePoint => true
  | .countHalt source _ _ => sourceOk source
  | .countThaw source _ => sourceOk source
  | .demand source _ _ => sourceOk source
  | .report source _ content => sourceOk source && content.wellFormed
  | .flagClear source _ _ => sourceOk source
  | .countLoad source _ _ _ => sourceOk source
  | .countQuery source _ _ => sourceOk source
  | .setup source _ _ _ => sourceOk source
  | .setupClose source _ => sourceOk source
  | .restart source _ _ => sourceOk source

end Sys2Proof
end

