-- ==== Sys2Proof/Decode.lean ====
section
/-! DEFINITION. Decoding of table words. spec/opcode_table.json gives none of its 25 rows any bits (its rows are
events of a block, not instruction words), so no word spells a command (log 6). How the telegrams on the frame line
become commands is in Machine/Wire.lean. -/

namespace Sys2Proof

/-- The command that the word `w` of `nbits` bits spells by the table's bits. The table gives no row any bits, so
no word spells a command. -/
def decodeTableWord (_nbits _w : Nat) : Option Instr := none

end Sys2Proof
end

