-- ==== Sys2Proof/Machine/Params.lean ====
section
/-! DEFINITION. The parameter table of spec/10 section 10.6: range and default of P1 to P73. -/

namespace Sys2Proof.Machine

/-- The range and the default of one parameter. -/
structure ParamRow where
  lo : Int
  hi : Int
  default : Int
  deriving DecidableEq, Repr

/-- The values of P1 to P73, P n at index n − 1. -/
abbrev ParamTable := Vector Int 73

/-- P1 to P11: period, compute offset, lost limit, masks, apply points, pulse inputs (spec/10 section 10.6). The
default urgency set holds codes 2, 3, 9, 11, 12 and 15. -/
def paramRowsCommon : List ParamRow :=
  [⟨5, 40, 10⟩, ⟨2, 39, 6⟩, ⟨3, 50, 5⟩, ⟨0, 65535, 65535⟩,
   ⟨0, 65535, 2 ^ 2 + 2 ^ 3 + 2 ^ 9 + 2 ^ 11 + 2 ^ 12 + 2 ^ 15⟩, ⟨0, 3, 0⟩, ⟨0, 2, 0⟩, ⟨0, 2, 0⟩, ⟨0, 2, 0⟩,
   ⟨512, 8192, 4096⟩, ⟨1, 8, 4⟩]

/-- P12 to P19: lo and hi of A0 to A3 in turn. -/
def paramRowsAnalog : List ParamRow :=
  [⟨-32768, 32767, 0⟩, ⟨-32768, 32767, 1000⟩, ⟨-32768, 32767, 0⟩, ⟨-32768, 32767, 1000⟩,
   ⟨-32768, 32767, 0⟩, ⟨-32768, 32767, 1000⟩, ⟨-32768, 32767, 0⟩, ⟨-32768, 32767, 1000⟩]

/-- P20 to P34: the wheel loop. -/
def paramRowsWheel : List ParamRow :=
  [⟨1, 255, 64⟩, ⟨1, 255, 16⟩, ⟨1, 200, 30⟩, ⟨1, 200, 10⟩, ⟨1, 100, 5⟩, ⟨1, 200, 20⟩, ⟨1, 1000, 50⟩, ⟨1, 100, 2⟩,
   ⟨50, 500, 380⟩, ⟨0, 200, 20⟩, ⟨1, 500, 20⟩, ⟨0, 1000, 300⟩, ⟨1, 1000, 50⟩, ⟨10, 30000, 1000⟩, ⟨0, 100, 75⟩]

/-- P35 to P43: arbitration. -/
def paramRowsArbitration : List ParamRow :=
  [⟨1, 32000, 300⟩, ⟨0, 31999, 100⟩, ⟨1, 500, 40⟩, ⟨1, 30000, 500⟩, ⟨1, 30000, 100⟩, ⟨1, 255, 32⟩, ⟨1, 255, 16⟩,
   ⟨0, 200, 40⟩, ⟨1, 200, 2⟩]

/-- P44 to P52: the steering role. -/
def paramRowsSteer : List ParamRow :=
  [⟨0, 255, 8⟩, ⟨0, 255, 8⟩, ⟨0, 255, 4⟩, ⟨0, 255, 4⟩, ⟨0, 1000, 200⟩, ⟨1, 20000, 50⟩, ⟨1, 1000, 50⟩,
   ⟨1, 1000, 100⟩, ⟨1, 1000, 10⟩]

/-- P53 to P61: the return role. -/
def paramRowsReturn : List ParamRow :=
  [⟨10000, 60000, 33600⟩, ⟨1500, 3000, 2100⟩, ⟨0, 9999, 1500⟩, ⟨0, 9999, 4500⟩, ⟨1, 255, 32⟩, ⟨0, 600, 60⟩,
   ⟨0, 200, 20⟩, ⟨1, 30000, 500⟩, ⟨1, 1000, 30⟩]

/-- Source, threshold and options of one duty counter (P62 to P73, three for each counter). -/
def paramRowsCounter : List ParamRow := [⟨0, 15, 0⟩, ⟨-32768, 32767, 0⟩, ⟨0, 7, 0⟩]

/-- The whole table, P1 first. -/
def paramRows : List ParamRow :=
  paramRowsCommon ++ paramRowsAnalog ++ paramRowsWheel ++ paramRowsArbitration ++ paramRowsSteer ++ paramRowsReturn ++
    paramRowsCounter ++ paramRowsCounter ++ paramRowsCounter ++ paramRowsCounter

/-- The row of parameter `n`, none for a number the table does not have (R161). -/
def paramRow (n : Nat) : Option ParamRow := if n = 0 then none else paramRows[n - 1]?

/-- The parameter values at power-on reset: the defaults (R168). -/
def paramDefaults : ParamTable := ⟨⟨paramRows.map ParamRow.default⟩, rfl⟩

/-- The value of P`n`. -/
def par (t : ParamTable) (n : Nat) : Int := t[n - 1]?.getD 0

/-- The value of P`n` as a count. -/
def parN (t : ParamTable) (n : Nat) : Nat := (par t n).toNat

/-- The table with P`n` stored as `v`. -/
def setPar (t : ParamTable) (n : Nat) (v : Int) : ParamTable := t.setIfInBounds (n - 1) v

end Sys2Proof.Machine
end

