-- ==== Sys2Proof/Machine/State.lean ====
section
/-! DEFINITION. The state of one TL640 station as plain data, block by block, and the state right after power-on
reset. INVENTORY.md lists every field with the rule that names it and its reset value. -/

namespace Sys2Proof.Machine

/-- The station states (spec/10, opening table). -/
inductive StationState where
  | starting | strapFault | setup | configFault | ready | active | clash
  deriving DecidableEq, Repr

/-- The operating modes (R166). -/
inductive Mode where
  | cut | hold | lift | stop
  deriving DecidableEq, Repr

/-- The directions of the wheel drive (R69). -/
inductive Direction where
  | forward | reverse
  deriving DecidableEq, Repr

/-- The sixteen event codes in order of code (spec/11 section 11.1). -/
inductive EventCode where
  | lockGained | lockLost | wheelJam | wheelFaulted | encoderFault | tiltDisagree | flapStuck | depthJump
  | returnLimited | returnBlocked | cavitation | peerLost | stationClash | valueClamped | markIrregular | sensorFault
  deriving DecidableEq, Repr

/-- The code number of an event (spec/11 section 11.1). -/
def EventCode.toNat : EventCode → Nat
  | .lockGained => 0 | .lockLost => 1 | .wheelJam => 2 | .wheelFaulted => 3 | .encoderFault => 4 | .tiltDisagree => 5
  | .flapStuck => 6 | .depthJump => 7 | .returnLimited => 8 | .returnBlocked => 9 | .cavitation => 10 | .peerLost => 11
  | .stationClash => 12 | .valueClamped => 13 | .markIrregular => 14 | .sensorFault => 15

/-- All event codes, in order of code. -/
def EventCode.all : List EventCode :=
  [.lockGained, .lockLost, .wheelJam, .wheelFaulted, .encoderFault, .tiltDisagree, .flapStuck, .depthJump,
   .returnLimited, .returnBlocked, .cavitation, .peerLost, .stationClash, .valueClamped, .markIrregular, .sensorFault]

/-! ### Power-on reset and station control -/

/-- The causes that hold power-on reset at present (R168). -/
structure ResetHold where
  supply : Bool
  pin : Bool
  deriving DecidableEq, Repr

/-- Station control (spec/10): straps as last read, station state, parameter table, setup window. -/
structure Control where
  straps : Straps
  station : StationState
  params : ParamTable
  settled : Bool
  validatedRole : Option Role
  failingCheck : Nat
  setupCount : Nat
  deriving DecidableEq, Repr

/-! ### Outbound list and line interface -/

/-- The content of a COUNT ANSWER (spec/01 section 1.2). -/
structure CountAnswer where
  index : Byte
  status : Byte
  value : Quad
  overflow : Bool
  frozen : Bool
  halting : Nibble
  deriving DecidableEq, Repr

/-- The content of an outbound entry; its kind and key stand in it (R10). For a NOTICE: its kind (urgent or
routine), event code, repeat count, detail and first period. -/
inductive Content where
  | mark (period : Half)
  | countHalt (index : Byte)
  | report (r : Report)
  | notice (urgent : Bool) (code : EventCode) (repeats : Nat) (detail : Half) (first : Half)
  | countAnswer (a : CountAnswer)
  deriving DecidableEq, Repr

/-- The key under which an entry coalesces (R10); `none` in an answer's key is the key "none". -/
inductive Key where
  | mark | countHalt | report
  | notice (code : EventCode)
  | countAnswer (index : Option Nat)
  deriving DecidableEq, Repr

/-- One entry of the outbound list (R10). -/
structure Entry where
  content : Content
  stamp : Nat
  attempts : Nat
  deriving DecidableEq, Repr

/-- The outbound list and the next age stamp (R10, R12). -/
structure Outbound where
  entries : List Entry
  nextStamp : Nat
  deriving DecidableEq, Repr

/-- What the receiver is doing: between telegrams (waiting for the line to be free, or listening on a free line), or
reading the winner's telegram after the own attempt ended OUTBID (R7, R16, R22). -/
inductive Receiver where
  | between | inTelegram
  deriving DecidableEq, Repr

/-- The line health (R20). -/
inductive LineHealth where
  | connected | isolated
  deriving DecidableEq, Repr

/-- The sending slot when it is not empty: the entry under attempt, and header byte 3 as taken at the attempt's start
(R4, R6, R13). -/
structure Slot where
  entry : Entry
  periodByte : Byte
  deriving DecidableEq, Repr

/-- The line interface (spec/01). -/
structure Line where
  receiver : Receiver
  health : LineHealth
  isolation : Nat
  slot : Option Slot
  deriving DecidableEq, Repr

/-! ### Period marker and output stage -/

/-- The period marker (R23). A running timer holds the length in µs it was started with. `sample` is the sample
period number of the last compute (R31). -/
structure Marker where
  count : Half
  firstMark : Bool
  periodTimer : Option Nat
  computeTimer : Option Nat
  sample : Option Half
  deriving DecidableEq, Repr

/-- One output channel (R34). -/
structure Channel where
  staged : Int
  applied : Int
  deriving DecidableEq, Repr

/-! ### Peer view -/

/-- The states of a row that has been heard (R39). -/
inductive Life where
  | fresh | stale | lost
  deriving DecidableEq, Repr

/-- A row of the peer view (R39): NEVER, in which every other field is absent, or heard, with its state, its age in
marks and its content. -/
inductive Row (α : Type) where
  | never
  | heard (life : Life) (age : Nat) (content : α)
  deriving DecidableEq, Repr

/-- The content of a row from 1 to 14 (R39, R43). -/
structure PeerContent where
  station : ReportedState
  role : Role
  side : Side
  flags : Half
  sample : Half
  part : RolePart
  deriving DecidableEq, Repr

/-- The content of row 0: the nine handled DEMAND fields (R39, R42). -/
structure DemandContent where
  mode : Mode
  direction : Direction
  baseSpeed : Int
  targetX : Int
  targetY : Int
  depth : Int
  rate : Int
  densityLimit : Int
  freshDensity : Int
  deriving DecidableEq, Repr

/-! ### Measurement front end -/

/-- One pulse input: its filter, running count, window ring (oldest first) and speed (R55 to R59). -/
structure Pulse where
  running : Bool
  primed : Bool
  accepted : Level
  last : Level
  count : Nat
  ring : List Nat
  speed : Int
  deriving DecidableEq, Repr

/-- The status of an analog input (R65). -/
inductive AnalogStatus where
  | unread | good | held | faulted
  deriving DecidableEq, Repr

/-- One analog input (R63, R65). -/
structure Analog where
  raw : BitVec 12
  status : AnalogStatus
  faults : Nat
  lastGood : Option Int
  deriving DecidableEq, Repr

/-- The measurement front end (spec/04). `encoderFault` names the silent input while the condition holds (R62). -/
structure FrontEnd where
  pulse1 : Pulse
  pulse2 : Pulse
  pairSpeed : Int
  encoderFault : Option PulseInput
  analog : Vector Analog 4
  deriving DecidableEq, Repr

/-! ### Role engine -/

/-- The states of the wheel loop (R69). -/
inductive LoopState where
  | off | acquire | track | locked | stalled | backoff | faulted
  deriving DecidableEq, Repr

/-- The wheel role (R69). -/
structure Wheel where
  loop : LoopState
  u : Int
  residue : Int
  ramped : Int
  direction : Direction
  target : Int
  error : Int
  drive : Int
  acquireCount : Nat
  lockCount : Nat
  exitCount : Nat
  jamCount : Nat
  stallCount : Nat
  backoffCount : Nat
  history : List Half
  deriving DecidableEq, Repr

/-- The standing of a WHEEL station (R94). -/
inductive Standing where
  | leader | follower | lone
  deriving DecidableEq, Repr

/-- The arbitration modes (R94). -/
inductive ArbMode where
  | balance | steer | relief
  deriving DecidableEq, Repr

/-- The arbitration state (R94). -/
structure Arbitration where
  standing : Standing
  leader : Option Nat
  sameSide : Bool
  mode : ArbMode
  starve : Nat
  relief : Nat
  target : Int
  next : Int
  inEffect : Int
  deriving DecidableEq, Repr

/-- The fusion states (R112). -/
inductive Fusion where
  | paired | single | disagree | borrowed | blind
  deriving DecidableEq, Repr

/-- The steering role (R112). -/
structure Steer where
  fusion : Fusion
  usedX : Int
  usedY : Int
  offX : Int
  offY : Int
  resX : Int
  resY : Int
  depthRef : Option Int
  resetPending : Bool
  resetPeriod : Option Half
  flapL : Int
  flapR : Int
  stuckCountL : Nat
  stuckCountR : Nat
  stuckL : Bool
  stuckR : Bool
  deriving DecidableEq, Repr

/-- The return states (R129). -/
inductive ReturnState where
  | idle | priming | running | limited | blocked
  deriving DecidableEq, Repr

/-- The return role (R129). -/
structure Return where
  state : ReturnState
  u : Int
  residue : Int
  trim : Int
  flowTarget : Int
  cavitating : Bool
  primeCount : Nat
  primeRun : Nat
  limitedExit : Nat
  blockedRun : Nat
  clearRun : Nat
  deriving DecidableEq, Repr

/-! ### Duty counters and the whole station -/

/-- One duty counter (R149); its source, threshold and options are parameters. -/
structure Counter where
  value : Quad
  overflow : Bool
  previous : Bool
  deriving DecidableEq, Repr

/-- The duty counters, the freeze state and the halting station, 15 for none (R149). -/
structure Duty where
  counters : Vector Counter 4
  frozen : Bool
  halting : Nibble
  deriving DecidableEq, Repr

/-- The state of one station. `pending` is the queue of commands waiting, first in first out. -/
structure State where
  pending : List Instr
  hold : ResetHold
  control : Control
  line : Line
  outbound : Outbound
  marker : Marker
  ch0 : Channel
  ch1 : Channel
  row0 : Row DemandContent
  rows : Vector (Row PeerContent) 14
  front : FrontEnd
  wheel : Wheel
  arb : Arbitration
  steer : Steer
  ret : Return
  duty : Duty
  flags : Half
  deriving DecidableEq, Repr

/-- Why the block stops. The spec gives the TL640 no stop of any kind: a telegram it cannot use is discarded (R5,
R16), and its own fault conditions are states and flags (STRAP FAULT, CONFIG FAULT, CLASH and the event codes). So
no command raises a fault, and the type has no constructor. -/
inductive Fault where
  deriving DecidableEq, Repr

/-- Why a command has no meaning in this model. -/
inductive Refusal where
  /-- Raised by `exec` alone, for a command whose meaning is not written yet; no arm raises it now. Safe. -/
  | notModelled (mnemonic : String)
  deriving DecidableEq, Repr

/-! ### Power-on values -/

/-- Station control at power-on reset: STARTING, parameters at their defaults, not settled (R159, R168). Straps not
yet read stand at 0 (DESIGN CHOICE, log 2), the failing check number at 0 (DESIGN CHOICE, log 9), no role is recorded as
validated (DESIGN CHOICE, log 36), and the setup window count, which R160 sets on entry to SETUP alone, stands at 0 (DESIGN
CHOICE, log 37). -/
def Control.reset : Control :=
  { straps := ⟨0, 0, .zero⟩, station := .starting, params := paramDefaults, settled := false, validatedRole := none,
    failingCheck := 0, setupCount := 0 }

/-- The line interface after either reset (R22). -/
def Line.reset : Line := { receiver := .between, health := .connected, isolation := 0, slot := none }

/-- The outbound list after either reset (R10, R22). -/
def Outbound.reset : Outbound := { entries := [], nextStamp := 0 }

/-- The period marker after either reset, timers stopped (R23, R30). -/
def Marker.reset : Marker :=
  { count := 0, firstMark := true, periodTimer := none, computeTimer := none, sample := none }

/-- A channel after either reset (R34). -/
def Channel.reset : Channel := { staged := 0, applied := 0 }

/-- A pulse input after either reset (R55, R56, R58, R59). The filter levels stand at low until the first sample sets
them (DESIGN CHOICE, log 8). -/
def Pulse.reset : Pulse :=
  { running := false, primed := false, accepted := .low, last := .low, count := 0, ring := [], speed := 0 }

/-- An analog input after either reset (R65). The latest raw code stands at 0 until the first conversion (DESIGN
CHOICE, log 7). -/
def Analog.reset : Analog := { raw := 0, status := .unread, faults := 0, lastGood := none }

/-- The front end after either reset (spec/04 section 4.8). -/
def FrontEnd.reset : FrontEnd :=
  { pulse1 := Pulse.reset, pulse2 := Pulse.reset, pairSpeed := 0, encoderFault := none,
    analog := Vector.replicate 4 Analog.reset }

/-- The wheel role after either reset (R93). -/
def Wheel.reset : Wheel :=
  { loop := .off, u := 0, residue := 0, ramped := 0, direction := .forward, target := 0, error := 0, drive := 0,
    acquireCount := 0, lockCount := 0, exitCount := 0, jamCount := 0, stallCount := 0, backoffCount := 0, history := [] }

/-- The arbitration state after either reset (R111). -/
def Arbitration.reset : Arbitration :=
  { standing := .lone, leader := none, sameSide := false, mode := .balance, starve := 0, relief := 0, target := 0,
    next := 0, inEffect := 0 }

/-- The steering role after power-on reset (R128). -/
def Steer.reset : Steer :=
  { fusion := .blind, usedX := 0, usedY := 0, offX := 0, offY := 0, resX := 0, resY := 0, depthRef := none,
    resetPending := false, resetPeriod := none, flapL := 0, flapR := 0, stuckCountL := 0, stuckCountR := 0,
    stuckL := false, stuckR := false }

/-- The return role after either reset (R148). -/
def Return.reset : Return :=
  { state := .idle, u := 0, residue := 0, trim := 0, flowTarget := 0, cavitating := false, primeCount := 0,
    primeRun := 0, limitedExit := 0, blockedRun := 0, clearRun := 0 }

/-- The duty counters after power-on reset (R158). -/
def Duty.reset : Duty :=
  { counters := Vector.replicate 4 { value := 0, overflow := false, previous := false }, frozen := false, halting := 15 }

/-- The machine right after reset: power-on reset at supply rise still holds, and every field stands at its power-on
value (R168). The first command of a run is RESET_RELEASE, which reads the straps (log 2). -/
def State.reset : State :=
  { pending := [], hold := ⟨true, false⟩, control := Control.reset, line := Line.reset, outbound := Outbound.reset,
    marker := Marker.reset, ch0 := Channel.reset, ch1 := Channel.reset, row0 := .never,
    rows := Vector.replicate 14 .never, front := FrontEnd.reset, wheel := Wheel.reset, arb := Arbitration.reset,
    steer := Steer.reset, ret := Return.reset, duty := Duty.reset, flags := 0 }

end Sys2Proof.Machine
end

