-- ==== Sys2Proof/Machine/Arith.lean ====
section
/-! DEFINITION. The arithmetic of spec/00: the four roundings, clamping, bounded movement, modular period ages, and the
integral step with residue that the wheel loop and the pump share. Sums and products are exact integers; spec/00 says
that the part's 48-bit intermediates are wide enough for every product it forms (log 22). -/

namespace Sys2Proof.Machine

/-- Division toward zero (spec/00, "Rounding"). -/
def divZero (a b : Int) : Int := a.tdiv b

/-- Division half up of a non-negative dividend: half the divisor is added before truncation. -/
def divHalfUp (a b : Int) : Int := (a + b.tdiv 2).tdiv b

/-- Division half away from zero: half the divisor is added to the magnitude, and the sign is restored. -/
def divHalfAway (a b : Int) : Int :=
  if a < 0 then -((-a + b.tdiv 2).tdiv b) else (a + b.tdiv 2).tdiv b

/-- Division up of a non-negative dividend: the ceiling. -/
def divUp (a b : Int) : Int := (a + (b - 1)).tdiv b

/-- `v` clamped to the nearer of the bounds `lo` and `hi`. -/
def clamp (lo hi v : Int) : Int := if v < lo then lo else if hi < v then hi else v

/-- The magnitude of `v`. -/
def mag (v : Int) : Int := if v < 0 then -v else v

/-- `cur` moved toward `goal` by at most `step` (R74, R105). -/
def moveToward (cur goal step : Int) : Int :=
  if cur < goal then min (cur + step) goal else if goal < cur then max (cur - step) goal else cur

/-- `n` raised by 1, saturating at `bound`. -/
def satSucc (bound n : Nat) : Nat := if n < bound then n + 1 else bound

/-- The age of a recorded period number: the modular difference (spec/00, "Period numbers"). -/
def periodAge (now recorded : Half) : Nat := (now - recorded).toNat

/-- One integral step of an output `u` with its residue (R81, R135): gain times error plus residue, divided by 256 with
the remainder carried, limited to the slew, and `u` kept in 0 to 1000; any limit clears the residue. -/
def integralStep (gain error slew : Int) (u residue : Int) : Int × Int :=
  let t := gain * error + residue
  let quot := divZero t 256
  let step := clamp (-slew) slew quot
  let carry := if step = quot then t - 256 * quot else 0
  if u + step < 0 then (0, 0) else if 1000 < u + step then (1000, 0) else (u + step, carry)

end Sys2Proof.Machine
end

