-- ==== Sys2Proof/Machine/Operands.lean ====
section
/-! DEFINITION. Reading the operands of commands: codes of payload fields (spec/01 section 1.2), the straps (R159), the
field handling of a DEMAND (R165) and the value of a SETUP (R161). -/

namespace Sys2Proof.Machine

/-! ### Codes -/

/-- The code of a mode in DEMAND and REPORT (spec/01 section 1.2). -/
def Mode.code : Mode → Byte
  | .cut => 0 | .hold => 1 | .lift => 2 | .stop => 3

/-- The code of a loop state in the WHEEL role part. -/
def LoopState.code : LoopState → Nat
  | .off => 0 | .acquire => 1 | .track => 2 | .locked => 3 | .stalled => 4 | .backoff => 5 | .faulted => 6

/-- The code of an arbitration mode in the WHEEL role part. -/
def ArbMode.code : ArbMode → Byte
  | .balance => 0 | .steer => 1 | .relief => 2

/-- The code of a fusion state in the STEER role part. -/
def Fusion.code : Fusion → Byte
  | .paired => 0 | .single => 1 | .disagree => 2 | .borrowed => 3 | .blind => 4

/-- The code of a return state in the RETURN role part. -/
def ReturnState.code : ReturnState → Byte
  | .idle => 0 | .priming => 1 | .running => 2 | .limited => 3 | .blocked => 4

/-- The arbitration mode a code below 3 names. -/
def ArbMode.ofFin : Fin 3 → ArbMode
  | 0 => .balance | 1 => .steer | 2 => .relief

/-- The arbitration mode a reported code stands for; above 2 the spec names none, and the mode is the free value of
log 10. -/
def ArbMode.ofCode (c : Byte) : ArbMode :=
  if c = 0 then .balance else if c = 1 then .steer else if c = 2 then .relief
  else ArbMode.ofFin (Config.unstatedModeCode c)

/-! ### Straps -/

/-- The role a role strap code selects; code 3 is invalid (R159). -/
def roleOfCode (c : BitVec 2) : Option Role :=
  if c = 0 then some .wheel else if c = 1 then some .steer else if c = 2 then some .ret else none

/-- The straps name a station: number 1 to 14 and a valid role (R159). -/
def strapsValid (st : Straps) : Bool :=
  st.number != 0 && st.number != 15 && (roleOfCode st.role).isSome

/-! ### DEMAND fields -/

/-- The nine handled fields of a DEMAND, given the direction row 0 held before (R42, R165). -/
def handleDemand (before : Direction) (f : DemandFields) : DemandContent :=
  { mode := if f.mode = 0 then .cut else if f.mode = 1 then .hold else if f.mode = 2 then .lift
      else if f.mode = 3 then .stop else .hold
    direction := if f.direction = 0 then .forward else if f.direction = 1 then .reverse else before
    baseSpeed := clamp 0 999 f.baseSpeed.toNat
    targetX := clamp (-32000) 32000 f.targetX.toInt
    targetY := clamp (-32000) 32000 f.targetY.toInt
    depth := clamp 0 30000 f.depth.toNat
    rate := clamp 0 2000 f.rate.toNat
    densityLimit := clamp 1100 1500 f.densityLimit.toNat
    freshDensity := clamp 1000 1300 f.freshDensity.toNat }

/-- The density limit stands below the fresh density plus 20 (R131). -/
def limitTooLow (d : DemandContent) : Bool := d.densityLimit < d.freshDensity + 20

/-- The field indices that raise VALUE CLAMPED for a DEMAND, in the order of the raises: each handled field in
ascending index (R165), and at a RETURN station index 8 once more, between the raises for 8 and 9, where the handled
density limit is too low (R131). -/
def clampedFields (ret : Bool) (f : DemandFields) (d : DemandContent) : List Int :=
  (if 3 < f.mode.toNat then [1] else []) ++
  (if 1 < f.direction.toNat then [2] else []) ++
  (if d.baseSpeed ≠ f.baseSpeed.toNat then [3] else []) ++
  (if d.targetX ≠ f.targetX.toInt then [4] else []) ++
  (if d.targetY ≠ f.targetY.toInt then [5] else []) ++
  (if d.depth ≠ f.depth.toNat then [6] else []) ++
  (if d.rate ≠ f.rate.toNat then [7] else []) ++
  (if d.densityLimit ≠ f.densityLimit.toNat then [8] else []) ++
  (if ret ∧ limitTooLow d then [8] else []) ++
  (if d.freshDensity ≠ f.freshDensity.toNat then [9] else [])

/-! ### SETUP values -/

/-- A SETUP value as its parameter reads it: unsigned for P4, P5 and P53, signed for every other (R161). -/
def setupValue (n : Nat) (v : Half) : Int :=
  if n = 4 ∨ n = 5 ∨ n = 53 then v.toNat else v.toInt

/-! ### Row content -/

/-- The content a REPORT fills its row with (R43). A RETURN station's packed byte carries side 0; a RETURN REPORT that
carries 1 is taken, and the side is recorded as read (DESIGN CHOICE, log 35). -/
def peerContentOf (r : Report) : PeerContent :=
  { station := r.station, role := r.role, side := r.side, flags := r.flags, sample := r.sample, part := r.part }

end Sys2Proof.Machine
end

