-- ==== Sys2Proof/Machine/OutboundList.lean ====
section
/-! DEFINITION. The outbound list: kinds and keys (R10), coalescing (R11), order (R12), return from the slot (R14) and
withdrawal (R15). -/

namespace Sys2Proof.Machine

/-- The kind of an entry, which is also its rank in the list (R10, R12; spec/01 section 1.2). -/
def Content.kind : Content → Nat
  | .mark _ => 0
  | .countHalt _ => 1
  | .report _ => 4
  | .notice urgent _ _ _ _ => if urgent then 5 else 6
  | .countAnswer _ => 10

/-- The key under which an entry coalesces; both NOTICE kinds share one set of keys (R10). -/
def Content.key : Content → Key
  | .mark _ => .mark
  | .countHalt _ => .countHalt
  | .report _ => .report
  | .notice _ code _ _ _ => .notice code
  | .countAnswer a => .countAnswer (if a.index.toNat < 4 then some a.index.toNat else none)

/-- What becomes of a pending content when a newer one of the same key coalesces into it (R11); a merge on return from
the slot is the same with the returning entry in the pending one's part (R14), and there the repeat counts are added. -/
def Content.coalesce : Content → Content → Content
  | .mark _, .mark n => .mark n
  | .report _, .report r => .report r
  | .countHalt i, .countHalt _ => .countHalt i
  | .notice urgent code repeats _ first, .notice _ _ newRepeats newDetail _ =>
      .notice urgent code (min 255 (repeats + newRepeats)) newDetail first
  | .countAnswer _, .countAnswer a => .countAnswer a
  | old, _ => old

/-- `a` stands before `b` in the list: lower kind, or the same kind and the older age stamp (R12). -/
def Entry.before (a b : Entry) : Bool :=
  a.content.kind < b.content.kind || (a.content.kind == b.content.kind && a.stamp < b.stamp)

/-- The entry put in its place in the order of R12. -/
def insertEntry (e : Entry) : List Entry → List Entry
  | [] => [e]
  | x :: xs => if e.before x then e :: x :: xs else x :: insertEntry e xs

/-- The pending entry of a key, if there is one. -/
def findKey (k : Key) (l : List Entry) : Option Entry := l.find? (fun e => e.content.key == k)

/-- The list without its entry of key `k` (R15). -/
def dropKey (k : Key) (l : List Entry) : List Entry := l.filter (fun e => e.content.key != k)

/-- The entry with a newer content coalesced into it; its age stamp and attempt count stand (R11). -/
def Entry.absorbed (e : Entry) (c : Content) : Entry := { e with content := e.content.coalesce c }

/-- The entry as an offer of `c` leaves it: changed only where it has the key of `c`. -/
def Entry.absorb (c : Content) (e : Entry) : Entry := if e.content.key == c.key then e.absorbed c else e

/-- A block offers an item: it coalesces into the pending entry of its key, or a new entry with the next age stamp and
no attempts is created (R10, R11). -/
def Outbound.offer (o : Outbound) (c : Content) : Outbound :=
  match findKey c.key o.entries with
  | some _ => { o with entries := o.entries.map (Entry.absorb c) }
  | none => { entries := insertEntry ⟨c, o.nextStamp, 0⟩ o.entries, nextStamp := o.nextStamp + 1 }

/-- An entry comes back from the slot: to its old place, or merged with a pending entry of its key (R14). -/
def Outbound.giveBack (o : Outbound) (e : Entry) : Outbound :=
  match findKey e.content.key o.entries with
  | some p => { o with entries := insertEntry (e.absorbed p.content) (dropKey e.content.key o.entries) }
  | none => { o with entries := insertEntry e o.entries }

/-- The pending entry of key `k` is withdrawn (R15). -/
def Outbound.withdraw (o : Outbound) (k : Key) : Outbound := { o with entries := dropKey k o.entries }

end Sys2Proof.Machine
end

