-- ==== Sys2Proof/Machine/Ops.lean ====
section
/-! DEFINITION. Named reads of the station that every block shares: role and parameters, what a station state permits,
the mode in force (R166), usable rows (R49, R50), supplied analog values (R67), and the offer of an item (R11). -/

namespace Sys2Proof.Machine

/-- The value of P`n`. -/
def State.param (s : State) (n : Nat) : Int := par s.control.params n

/-- The own station number (R159). -/
def State.number (s : State) : Nibble := s.control.straps.number

/-- The role read from the straps, none for the invalid code (R159). -/
def State.role (s : State) : Option Role := roleOfCode s.control.straps.role

/-- Power-on reset is held by some cause (R168). -/
def State.inReset (s : State) : Bool := s.hold.supply || s.hold.pin

/-- SETUP, CONFIG FAULT, READY and ACTIVE: the states that take marks (R26), deliver telegrams to blocks (R18), accept
every item into the list (R11), send every kind (R6) and can enter CLASH (R19). -/
def StationState.working : StationState → Bool
  | .setup | .configFault | .ready | .active => true
  | .starting | .strapFault | .clash => false

/-- READY and ACTIVE: the states whose compute runs (R31) and whose DEMANDs are taken (R164). -/
def StationState.computes : StationState → Bool
  | .ready | .active => true
  | .starting | .strapFault | .setup | .configFault | .clash => false

/-- SETUP and CONFIG FAULT: the states that act on SETUP and SETUP CLOSE (R18, R161, R162). -/
def StationState.configures : StationState → Bool
  | .setup | .configFault => true
  | .starting | .strapFault | .ready | .active | .clash => false

/-- A heard row's content, whatever its state (R50, R51). -/
def Row.content? {α : Type} : Row α → Option α
  | .never => none
  | .heard _ _ c => some c

/-- The row is FRESH or STALE. -/
def Row.live {α : Type} : Row α → Bool
  | .never => false
  | .heard life _ _ => life != .lost

/-- The row is STALE or LOST, which the duty counters count (R54). -/
def Row.notFresh {α : Type} : Row α → Bool
  | .never => false
  | .heard life _ _ => life != .fresh

/-- The mode in force (R166): in ACTIVE the mode held in row 0, a CUT in a LOST row being in force as HOLD; STOP in
every other state. An ACTIVE station's row 0 is never NEVER; were it so, the mode would be STOP (log 17). -/
def State.modeInForce (s : State) : Mode :=
  if s.control.station = .active then
    match s.row0 with
    | .never => .stop
    | .heard life _ d => if d.mode = .cut ∧ life = .lost then .hold else d.mode
  else .stop

/-- The content of a row is usable (R49): live, with a role part, and reported READY or ACTIVE. -/
def usableContent (r : Row PeerContent) : Option PeerContent :=
  match r with
  | .never => none
  | .heard life _ c =>
    if life ≠ .lost ∧ c.part ≠ .none ∧ (c.station = .ready ∨ c.station = .active) then some c else none

/-- The row of station `n`, 1 to 14. -/
def State.row (s : State) (n : Nat) : Row PeerContent := if n = 0 then .never else s.rows[n - 1]?.getD .never

/-- The usable rows with their station numbers, in ascending number (R49). -/
def State.usableRows (s : State) : List (Nat × PeerContent) :=
  (List.range 14).filterMap fun i => (usableContent (s.row (i + 1))).map fun c => (i + 1, c)

/-- The usable rows of a role, in ascending number. -/
def State.usableOf (s : State) (r : Role) : List (Nat × PeerContent) :=
  s.usableRows.filter fun p => p.2.role == r

/-- The row shows SENSOR FAULT among its masked flags (R49, R101). -/
def PeerContent.sensorFault (c : PeerContent) : Bool := c.flags.getLsbD 15

/-- Input A`i`. -/
def State.input (s : State) (i : Fin 4) : Analog := s.front.analog[i]

/-- The value the front end supplies for an analog input: the last good value, or 0 while it has none (R67). -/
def Analog.value (a : Analog) : Int := a.lastGood.getD 0

/-- The supplied value is valid: GOOD or HELD (R65, R67). -/
def Analog.valid (a : Analog) : Bool := a.status == .good || a.status == .held

/-- The analog inputs a role uses (R63). -/
def usedInputs : Option Role → List (Fin 4)
  | some .wheel => [0]
  | some .steer => [0, 1, 2, 3]
  | some .ret => [0, 1, 2]
  | none => []

/-- A block offers the list an item. STARTING, STRAP FAULT and CLASH enter none (R11); the clash notice has its own way
(R19). -/
def State.offer (s : State) (c : Content) : State :=
  if s.control.station.working then { s with outbound := s.outbound.offer c } else s

end Sys2Proof.Machine
end

