-- ==== Sys2Proof/Machine/Flags.lean ====
section
/-! DEFINITION. The event unit: raising (R169, R171), the conditions of level codes (R170), masked flags (R172) and
clearing (R173). -/

namespace Sys2Proof.Machine

/-- The bit of an event code in a code set: bit n for code n (R172). -/
def EventCode.bit (c : EventCode) : Half := 1#16 <<< c.toNat

/-- A code set holds an event code. -/
def inSet (set : Half) (c : EventCode) : Bool := set.getLsbD c.toNat

/-- P4, the report mask (R171). -/
def State.reportMask (s : State) : Half := BitVec.ofInt 16 (s.param 4)

/-- P5, the urgency set (R171). -/
def State.urgencySet (s : State) : Half := BitVec.ofInt 16 (s.param 5)

/-- A block tells the event unit of a code and a detail: the flag is set, and a code in the report mask offers a NOTICE
(R169, R171). -/
def State.raise (s : State) (code : EventCode) (detail : Int) : State :=
  let latched := { s with flags := s.flags ||| code.bit }
  if inSet s.reportMask code then
    latched.offer (.notice (inSet s.urgencySet code) code 1 (BitVec.ofInt 16 detail) s.marker.count)
  else latched

/-- An event and its detail, as a block hands it to the event unit. -/
abbrev Raise := EventCode × Int

/-- The raises of a block, taken in order. -/
def State.raiseAll (s : State) (l : List Raise) : State := l.foldl (fun s r => s.raise r.1 r.2) s

/-- The condition of a level code holds (R170); an edge code has none. -/
def State.levelHolds (s : State) : EventCode → Bool
  | .wheelFaulted => s.wheel.loop == .faulted
  | .encoderFault => s.front.encoderFault.isSome
  | .tiltDisagree => s.steer.fusion == .disagree
  | .flapStuck => s.steer.stuckL || s.steer.stuckR
  | .returnLimited => s.ret.state == .limited
  | .returnBlocked => s.ret.state == .blocked
  | .cavitation => s.ret.cavitating
  | .stationClash => s.control.station == .clash || s.arb.sameSide
  | .sensorFault => (usedInputs s.role).any fun i => (s.input i).status == .faulted
  | .lockGained | .lockLost | .wheelJam | .depthJump | .peerLost | .valueClamped | .markIrregular => false

/-- The codes whose flags a FLAG CLEAR cannot clear at present (R173). -/
def State.heldSet (s : State) : Half :=
  EventCode.all.foldl (fun m c => if s.levelHolds c then m ||| c.bit else m) 0

/-- FLAG CLEAR: each named edge flag, and each named level flag whose condition is absent, is cleared (R173). -/
def State.clearFlags (s : State) (codes : Half) : State :=
  { s with flags := s.flags &&& ~~~(codes &&& ~~~s.heldSet) }

/-- The flags a REPORT carries: every code outside P4 shown clear (R172). -/
def State.maskedFlags (s : State) : Half := s.flags &&& s.reportMask

end Sys2Proof.Machine
end

