-- ==== Sys2Proof/Machine/Measure.lean ====
section
/-! DEFINITION. The measurement front end of spec/04: pulse filters, counts and rings, speeds, pair speed and ENCODER
FAULT, analog scaling, fault hold and SENSOR FAULT. -/

namespace Sys2Proof.Machine

/-- The sample period in µs that P7 selects (R55). -/
def samplePeriod (code : Int) : Nat := if code = 0 then 2 else if code = 1 then 8 else 32

/-- An accepted edge to `level` is of the sort an edge select names: 0 rising, 1 falling, 2 both (R56). -/
def edgeSelected (select : Int) (level : Level) : Bool :=
  select = 2 || (select = 0 && level == .high) || (select = 1 && level == .low)

/-- The noise filter takes a sample (R55), and an accepted edge of the selected sort raises the running count, up to
65535 (R56). -/
def Pulse.sample (select : Int) (level : Level) (p : Pulse) : Pulse :=
  if !p.running then p
  else if !p.primed then { p with primed := true, accepted := level, last := level }
  else if level = p.last ∧ level ≠ p.accepted then
    { p with accepted := level, count := if edgeSelected select level then satSucc 65535 p.count else p.count }
  else { p with last := level }

/-- A ring cut to its newest `w` entries (R58). -/
def newest (w : Nat) (ring : List Nat) : List Nat := ring.drop (ring.length - w)

/-- A mark closes the period: the running count is appended to the ring, unless this was the first mark, and set to 0
(R57, R58). -/
def Pulse.close (w : Nat) (first : Bool) (p : Pulse) : Pulse :=
  { p with count := 0, ring := if first then p.ring else newest w (p.ring ++ [p.count]) }

/-- Both pulse inputs close their period at a mark (R57). -/
def State.closePeriod (s : State) (first : Bool) : State :=
  { s with front := { s.front with
      pulse1 := s.front.pulse1.close (parN s.control.params 11) first
      pulse2 := s.front.pulse2.close (parN s.control.params 11) first } }

/-- The sum of a ring. -/
def Pulse.sum (p : Pulse) : Nat := p.ring.sum

/-- The speed of one input in 0.1 rpm, from its ring, P10 and P1 (R59). -/
def ringSpeed (t : ParamTable) (ring : List Nat) : Int :=
  if ring = [] then 0
  else min 999 (divHalfUp (ring.sum * 600000) (par t 10 * ring.length * par t 1))

/-- The ENCODER FAULT condition after a compute, from the two window sums (R62). -/
def encoderCondition (sum1 sum2 : Nat) (before : Option PulseInput) : Option PulseInput :=
  if sum1 = 0 ∧ 50 ≤ sum2 then some .first
  else if sum2 = 0 ∧ 50 ≤ sum1 then some .second
  else
    match before with
    | some .first => if sum1 = 0 ∧ 0 < sum2 then some .first else none
    | some .second => if sum2 = 0 ∧ 0 < sum1 then some .second else none
    | none => none

/-- The raise of ENCODER FAULT where the condition comes to hold for an input (R62). -/
def encoderRaise (before after : Option PulseInput) : List Raise :=
  match after with
  | some .first => if before = some .first then [] else [(.encoderFault, 1)]
  | some .second => if before = some .second then [] else [(.encoderFault, 2)]
  | none => []

/-- The pair speed (R61). -/
def pairSpeedOf (fault : Option PulseInput) (speed1 speed2 : Int) : Int :=
  match fault with
  | some .first => speed2
  | some .second => speed1
  | none => divZero (speed1 + speed2) 2

/-- The range of the quantity on input A`i` of a role (R63). -/
def quantityRange (role : Option Role) (i : Fin 4) : Int × Int :=
  match role with
  | some .steer => if i.val < 2 then (-20000, 20000) else (0, 1000)
  | some .ret => if i.val = 0 then (0, 9999) else if i.val = 1 then (1000, 2000) else (0, 600)
  | some .wheel => (0, 500)
  | none => (0, 0)

/-- A raw code is a good sample (R64). -/
def goodSample (raw : BitVec 12) : Bool := 614 ≤ raw.toNat && raw.toNat ≤ 3583

/-- The value a good sample is scaled to, in the three steps of R64. -/
def scaleRaw (lo hi : Int) (range : Int × Int) (raw : BitVec 12) : Int :=
  let scaled := lo + divHalfAway (((raw.toNat : Int) - 682) * (hi - lo)) 2730
  clamp range.1 range.2 (clamp (min lo hi) (max lo hi) scaled)

/-- One compute of a used analog input (R65). -/
def Analog.treat (lo hi : Int) (range : Int × Int) (a : Analog) : Analog :=
  if goodSample a.raw then { a with lastGood := some (scaleRaw lo hi range a.raw), faults := 0, status := .good }
  else
    match a.status with
    | .good => { a with faults := 1, status := .held }
    | .unread => if a.faults + 1 < 10 then { a with faults := a.faults + 1 } else { a with faults := 10, status := .faulted }
    | .held => if a.faults + 1 < 10 then { a with faults := a.faults + 1 } else { a with faults := 10, status := .faulted }
    | .faulted => { a with faults := 10 }

/-- Input A`i` of a station after the treatment of one compute. -/
def State.treated (s : State) (i : Fin 4) : Analog :=
  (s.input i).treat (s.param (12 + 2 * i.val)) (s.param (13 + 2 * i.val)) (quantityRange s.role i)

/-- One used input is treated, and SENSOR FAULT is raised where it enters FAULTED (R66). -/
def State.treatInput (s : State) (i : Fin 4) : State :=
  let a := s.treated i
  let stored := { s with front := { s.front with analog := s.front.analog.set i.val a i.isLt } }
  if a.status = .faulted ∧ (s.input i).status ≠ .faulted then stored.raise .sensorFault i.val else stored

/-- The speeds of both inputs are formed from their rings (R59). -/
def State.formSpeeds (s : State) : State :=
  { s with front := { s.front with
      pulse1 := { s.front.pulse1 with speed := ringSpeed s.control.params s.front.pulse1.ring }
      pulse2 := { s.front.pulse2 with speed := ringSpeed s.control.params s.front.pulse2.ring } } }

/-- A WHEEL station tests ENCODER FAULT and forms its pair speed (R61, R62). -/
def State.formPair (s : State) : State :=
  let cond := encoderCondition s.front.pulse1.sum s.front.pulse2.sum s.front.encoderFault
  { s with front := { s.front with
      encoderFault := cond
      pairSpeed := pairSpeedOf cond s.front.pulse1.speed s.front.pulse2.speed } }
  |>.raiseAll (encoderRaise s.front.encoderFault cond)

/-- The front end's work of one compute, before the role computation (R67). No rule orders its raises: ENCODER FAULT
comes before SENSOR FAULT (DESIGN CHOICE, log 33), and the inputs are treated from A0 to A3 (DESIGN CHOICE, log 32). -/
def State.frontCompute (s : State) : State :=
  let formed := if s.role = some .wheel then s.formSpeeds.formPair else s.formSpeeds
  (usedInputs s.role).foldl State.treatInput formed

end Sys2Proof.Machine
end

