-- ==== Sys2Proof/Machine/Output.lean ====
section
/-! DEFINITION. The output stage of spec/02: apply points (R34), forcing by STOP (R35) and CLASH (R36), and the
current-output codes (R37, R38). -/

namespace Sys2Proof.Machine

/-- Channel 0 applies at COMPUTE: P6 is 1 or 3 (R34). -/
def State.compute0 (s : State) : Bool := s.param 6 = 1 || s.param 6 = 3

/-- Channel 1 applies at COMPUTE: P6 is 2 or 3 (R34). -/
def State.compute1 (s : State) : Bool := s.param 6 = 2 || s.param 6 = 3

/-- The staged value becomes the applied value. -/
def Channel.apply (c : Channel) : Channel := { c with applied := c.staged }

/-- A mark is taken: every channel whose apply point is MARK applies (R34). -/
def State.applyAtMark (s : State) : State :=
  { s with ch0 := if s.compute0 then s.ch0 else s.ch0.apply, ch1 := if s.compute1 then s.ch1 else s.ch1.apply }

/-- Compute completion: every channel whose apply point is COMPUTE applies (R34). -/
def State.applyAtCompute (s : State) : State :=
  { s with ch0 := if s.compute0 then s.ch0.apply else s.ch0, ch1 := if s.compute1 then s.ch1.apply else s.ch1 }

/-- The station's channel 0 is forced by STOP: its role is WHEEL or RETURN (R35). -/
def State.stopForces (s : State) : Bool := s.role == some .wheel || s.role == some .ret

/-- A compute writes the staged value of channel 0; while the mode in force is STOP a WHEEL or RETURN station's is held
at 0 (R35). -/
def State.stage0 (s : State) (v : Int) : State :=
  { s with ch0 := { s.ch0 with staged := if s.stopForces && s.modeInForce == .stop then 0 else v } }

/-- A compute writes the staged value of channel 1. -/
def State.stage1 (s : State) (v : Int) : State := { s with ch1 := { s.ch1 with staged := v } }

/-- Staged and applied value of channel 0 become 0 at once (R35, R36). -/
def State.zero0 (s : State) : State := { s with ch0 := { staged := 0, applied := 0 } }

/-- The code of an applied value on an unsigned channel (R38). -/
def unsignedCode (v : Int) : Int := 682 + divZero (v * 2730 + 500) 1000

/-- The code of an applied value on the signed WHEEL channel 0 (R38). -/
def signedCode (v : Int) : Int := 2047 + divHalfAway (v * 1365) 1000

/-- The 12-bit code current output 0 drives (R37, R168). -/
def State.outputCode0 (s : State) : Int :=
  if s.inReset then 0
  else
    match s.control.station with
    | .starting | .strapFault => 0
    | .setup | .configFault | .ready | .active | .clash =>
      if s.role = some .wheel then signedCode s.ch0.applied else unsignedCode s.ch0.applied

/-- The 12-bit code current output 1 drives (R37, R168). -/
def State.outputCode1 (s : State) : Int :=
  if s.inReset then 0
  else
    match s.control.station with
    | .starting | .strapFault => 0
    | .setup | .configFault | .ready | .active | .clash => unsignedCode s.ch1.applied

end Sys2Proof.Machine
end

