-- ==== Sys2Proof/Machine/BalanceSteer.lean ====
section
/-! DEFINITION. Balance and steer arbitration of spec/06: standing, the leader's machine, the targets, the differential
next, the handoff at a mark and adoption from the leader's REPORT. -/

namespace Sys2Proof.Machine

/-- What arbitration reads at a compute: parameters, mode in force, own number and side, the usable WHEEL and STEER
rows in ascending number, the target offset x of row 0, the own drive pressure and its validity. -/
structure ArbInput where
  params : ParamTable
  mode : Mode
  number : Nat
  side : Side
  wheels : List (Nat × PeerContent)
  steers : List (Nat × PeerContent)
  targetX : Int
  pressure : Int
  pressureValid : Bool
  deriving DecidableEq, Repr

/-- The lowest-numbered row of a side. -/
def lowestOf (side : Side) (l : List (Nat × PeerContent)) : Option (Nat × PeerContent) :=
  l.find? fun p => p.2.side == side

/-- The opposite side or face. -/
def otherSide : Side → Side
  | .zero => .one
  | .one => .zero

/-- The usable WHEEL row on the own side, lowest number (R96). -/
def sameSideRow (i : ArbInput) : Option (Nat × PeerContent) := lowestOf i.side i.wheels

/-- The partner: the usable WHEEL row of the opposite side, lowest number; none while the same-side condition holds
(R95). -/
def partnerRow (i : ArbInput) : Option (Nat × PeerContent) :=
  if (sameSideRow i).isSome then none else lowestOf (otherSide i.side) i.wheels

/-- The standing and the leader number the rows give (R95). -/
def selectStanding (i : ArbInput) : Standing × Option Nat :=
  match partnerRow i with
  | none => (.lone, none)
  | some p => if i.number < p.1 then (.leader, none) else (.follower, some p.1)

/-- A station joins, leaves or changes a leader: its starve and relief counts become 0; between leader and lone they
carry over (R97). -/
def changeStanding (i : ArbInput) (a : Arbitration) : Arbitration :=
  let sel := selectStanding i
  let carries := if a.standing = .follower then sel.1 = .follower ∧ sel.2 = a.leader else sel.1 ≠ .follower
  if carries then { a with standing := sel.1, leader := sel.2 }
  else { a with standing := sel.1, leader := sel.2, starve := 0, relief := 0 }

/-- The offset x a STEER row reports. -/
def PeerContent.offsetX (c : PeerContent) : Int :=
  match c.part with
  | .steer p => p.offX.toInt
  | _ => 0

/-- The drive pressure a WHEEL row reports. -/
def PeerContent.pressure (c : PeerContent) : Int :=
  match c.part with
  | .wheel p => p.pressure.toNat
  | _ => 0

/-- The offsets x the faces report, one for each face that has a usable row (R99). -/
def faceOffsets (i : ArbInput) : List Int :=
  ((lowestOf .zero i.steers).toList ++ (lowestOf .one i.steers).toList).map fun p => p.2.offsetX

/-- The steer error (R99). -/
def steerError (i : ArbInput) : Int :=
  i.targetX - divZero (faceOffsets i).sum (faceOffsets i).length

/-- Own and partner's pressure can be compared (R101, R103). -/
def pressuresKnown (i : ArbInput) (partner : PeerContent) : Bool := i.pressureValid && !partner.sensorFault

/-- The balance target (R103). -/
def balanceTarget (i : ArbInput) : Int :=
  match partnerRow i with
  | none => 0
  | some p =>
    if pressuresKnown i p.2 then
      let right := if i.side = .zero then p.2.pressure else i.pressure
      let left := if i.side = .zero then i.pressure else p.2.pressure
      clamp (-(par i.params 42)) (par i.params 42) (divZero (par i.params 41 * (right - left)) 16)
    else 0

/-- The steer target (R104). -/
def steerTarget (i : ArbInput) : Int :=
  clamp (-(par i.params 42)) (par i.params 42) (divZero (par i.params 40 * steerError i) 16)

/-- The starve count of a compute that stays in STEER (R101). -/
def starveCount (i : ArbInput) (a : Arbitration) : Nat :=
  match partnerRow i with
  | none => a.starve
  | some p =>
    if pressuresKnown i p.2 then (if par i.params 37 ≤ mag (i.pressure - p.2.pressure) then a.starve + 1 else 0)
    else a.starve

/-- The leader's machine where no forcing holds (R100, R101, R102). -/
def arbMachine (i : ArbInput) (a : Arbitration) : Arbitration :=
  let e := mag (steerError i)
  match a.mode with
  | .balance => if par i.params 35 ≤ e then { a with mode := .steer, starve := 0 } else a
  | .steer =>
    if e ≤ par i.params 36 then { a with mode := .balance, starve := 0 }
    else
      let n := starveCount i a
      if parN i.params 38 ≤ n ∧ a.starve < n then { a with mode := .relief, starve := 0, relief := 0 }
      else { a with starve := n }
  | .relief =>
    let n := a.relief + 1
    if parN i.params 39 ≤ n then
      (if par i.params 36 < e then { a with mode := .steer, starve := 0, relief := 0 }
       else { a with mode := .balance, relief := 0 })
    else { a with relief := n }

/-- Forcing and machine, and the differential target of the mode they leave (R98, R104). -/
def arbDecide (i : ArbInput) (a : Arbitration) : Arbitration :=
  let forced := { a with mode := .balance, starve := 0, relief := 0 }
  if a.standing = .lone ∨ i.mode ≠ .cut then { forced with target := 0 }
  else if i.steers = [] then { forced with target := balanceTarget i }
  else
    let m := arbMachine i a
    { m with target := if m.mode = .steer then steerTarget i else balanceTarget i }

/-- One compute of arbitration (R94 to R105), with its raise. -/
def arbCompute (i : ArbInput) (a : Arbitration) : Arbitration × List Raise :=
  let raises : List Raise :=
    match sameSideRow i with
    | some p => if a.sameSide then [] else [(.stationClash, 256 + p.1)]
    | none => []
  let b := changeStanding i { a with sameSide := (sameSideRow i).isSome }
  if b.standing = .follower then (b, raises)
  else
    let c := arbDecide i b
    ({ c with next := moveToward c.inEffect c.target (par i.params 43) }, raises)

/-- The differential in effect at a mark: a leader's or lone station's becomes the differential next (R106). -/
def arbMark (a : Arbitration) : Arbitration :=
  if a.standing = .follower then a else { a with inEffect := a.next }

/-- A follower adopts from its leader's REPORT (R107). -/
def arbAdopt (params : ParamTable) (source : Nat) (r : Report) (a : Arbitration) : Arbitration :=
  match r.part with
  | .wheel p =>
    if a.standing = .follower ∧ a.leader = some source then
      { a with inEffect := clamp (-(par params 42)) (par params 42) p.inEffect.toInt, mode := ArbMode.ofCode p.mode }
    else a
  | _ => a

/-- The leader bit of the packed byte (R110). -/
def Arbitration.leaderBit (a : Arbitration) : Bool := a.standing != .follower

end Sys2Proof.Machine
end

