-- ==== Sys2Proof/Machine/PeerView.lean ====
section
/-! DEFINITION. The peer view of spec/03: refresh (R42, R43), ageing at a mark (R46, R47), and the count of rows that
are not fresh (R54). -/

namespace Sys2Proof.Machine

/-- A heard row after a mark: its age raised by 1 up to 255, its state from the new age; LOST stays LOST (R46). -/
def agedLife (limit : Int) (life : Life) (age : Nat) : Life :=
  match life with
  | .lost => .lost
  | .fresh | .stale => if limit ≤ age then .lost else if 2 ≤ age then .stale else .fresh

/-- A row after a mark (R46). -/
def Row.aged {α : Type} (limit : Int) : Row α → Row α
  | .never => .never
  | .heard life age c => .heard (agedLife limit life (satSucc 255 age)) (satSucc 255 age) c

/-- PEER LOST for a row that passes from FRESH or STALE to LOST at a mark (R47). -/
def lostRaise {α : Type} (limit : Int) (n : Nat) (r : Row α) : List Raise :=
  if r.live ∧ !(r.aged limit).live then [(.peerLost, n)] else []

/-- All fifteen rows are aged, and PEER LOST is raised in ascending station number (R46, R47). -/
def State.ageRows (s : State) : State :=
  let limit := s.param 3
  let raises := lostRaise limit 0 s.row0 ++ (List.range 14).flatMap fun i => lostRaise limit (i + 1) (s.row (i + 1))
  { s with row0 := s.row0.aged limit, rows := ⟨⟨s.rows.toList.map (Row.aged limit)⟩, by simp⟩ }
  |>.raiseAll raises

/-- A REPORT from station `n` refreshes row n whole (R43). -/
def State.refreshRow (s : State) (n : Nat) (r : Report) : State :=
  { s with rows := s.rows.setIfInBounds (n - 1) (.heard .fresh 0 (peerContentOf r)) }

/-- A DEMAND refreshes row 0 with its handled fields (R42). -/
def State.refreshRow0 (s : State) (d : DemandContent) : State := { s with row0 := .heard .fresh 0 d }

/-- A REPORT is taken: its row is refreshed, and then a WHEEL follower adopts from its leader's REPORT (R43, R107). -/
def State.takeReport (s : State) (n : Nat) (r : Report) : State :=
  let refreshed := s.refreshRow n r
  if s.role = some .wheel then { refreshed with arb := arbAdopt s.control.params n r s.arb } else refreshed

/-- The number of rows not NEVER that are STALE or LOST (R54). -/
def State.staleRows (s : State) : Nat :=
  (if s.row0.notFresh then 1 else 0) + (s.rows.toList.filter Row.notFresh).length

end Sys2Proof.Machine
end

