-- ==== Sys2Proof/Machine/WheelLoop.lean ====
section
/-! DEFINITION. The wheel drive loop of spec/05: target, loop states, jam sequence, integral step, drive output, and STOP
at arrival. The functions work on the wheel role alone; Machine/ComputePoint.lean hands them their inputs. -/

namespace Sys2Proof.Machine

/-- What the wheel role reads at a compute (R70): parameters, mode in force, base speed and demanded direction of row 0
(none while row 0 is NEVER, R73), return state code of the RETURN row (none without a usable one, R71), pair speed,
drive pressure and its validity, differential in effect, side, period count. -/
structure WheelInput where
  params : ParamTable
  mode : Mode
  baseSpeed : Int
  demanded : Option Direction
  returnState : Option Byte
  pairSpeed : Int
  pressure : Int
  pressureValid : Bool
  inEffect : Int
  side : Side
  now : Half
  deriving DecidableEq, Repr

/-- The effective base under CUT, from the return state of the RETURN row (R71). -/
def cutBase (i : WheelInput) : Int :=
  match i.returnState with
  | none => 0
  | some c =>
    if c = ReturnState.running.code then i.baseSpeed
    else if c = ReturnState.limited.code then divZero (i.baseSpeed * par i.params 34) 100
    else 0

/-- The effective base under the mode in force (R71, R72). -/
def effectiveBase (i : WheelInput) : Int :=
  match i.mode with
  | .cut => cutBase i
  | .lift => min (cutBase i) 100
  | .hold | .stop => 0

/-- The direction to be applied and the base that stands at this compute (R73). -/
def settleDirection (i : WheelInput) (w : Wheel) : Direction × Int :=
  let wanted := i.demanded.getD w.direction
  if wanted = w.direction then (w.direction, effectiveBase i)
  else if w.ramped = 0 ∧ w.loop = .off ∧ i.pairSpeed ≤ par i.params 29 then (wanted, effectiveBase i)
  else (w.direction, 0)

/-- The station's share of the differential in effect (R75). -/
def shareOf (side : Side) (inEffect : Int) : Int :=
  let half := divZero inEffect 2
  match side with
  | .zero => half
  | .one => -(inEffect - half)

/-- The loop is in ACQUIRE, TRACK or LOCKED. -/
def LoopState.driving : LoopState → Bool
  | .acquire | .track | .locked => true
  | .off | .stalled | .backoff | .faulted => false

/-- Stage 1 (R70): direction, ramp (R74), effective target and error (R75). -/
def wheelTarget (i : WheelInput) (w : Wheel) : Wheel :=
  let d := settleDirection i w
  let ramped := moveToward w.ramped d.2 (par i.params 27)
  let target :=
    if (w.loop = .track ∨ w.loop = .locked) ∧ i.mode = .cut then clamp 0 999 (ramped + shareOf i.side i.inEffect)
    else ramped
  { w with direction := d.1, ramped := ramped, target := target, error := target - i.pairSpeed }

/-- LOCK LOST on leaving LOCKED for `next` (R80). -/
def lockLost (w : Wheel) (next : LoopState) : List Raise :=
  if w.loop = .locked then [(.lockLost, next.code)] else []

/-- Jams whose age has reached the attempt window leave the history (R85). -/
def expireJams (i : WheelInput) (w : Wheel) : Wheel :=
  { w with history := w.history.filter fun p => periodAge i.now p < parN i.params 33 }

/-- A jam is detected: the period is appended, and the loop goes to FAULTED on a third entry, else to STALLED (R84,
R85, R86, R88). -/
def wheelJammed (i : WheelInput) (w : Wheel) : Wheel × List Raise :=
  let history := w.history ++ [i.now]
  let stopped := { w with history := history, jamCount := 0, u := 0, residue := 0 }
  if 3 ≤ history.length then
    ({ stopped with loop := .faulted }, lockLost w .faulted ++ [(EventCode.wheelFaulted, (history.length : Int))])
  else
    ({ stopped with loop := .stalled, stallCount := 1 }, lockLost w .stalled ++ [(EventCode.wheelJam, i.pressure)])

/-- The window transitions at a compute whose ramped target is above 0 (R77 to R80). -/
def wheelWindows (i : WheelInput) (w : Wheel) : Wheel × List Raise :=
  let e := mag w.error
  let far := 2 * par i.params 22 < e
  match w.loop with
  | .acquire =>
    let n := if e ≤ par i.params 22 then w.acquireCount + 1 else 0
    if parN i.params 24 ≤ n then ({ w with loop := .track, acquireCount := n, lockCount := 0 }, [])
    else ({ w with acquireCount := n }, [])
  | .track =>
    if far then ({ w with loop := .acquire, acquireCount := 0 }, [])
    else
      let n := if e ≤ par i.params 23 then w.lockCount + 1 else 0
      if parN i.params 25 ≤ n then
        ({ w with loop := .locked, lockCount := n, exitCount := 0 }, [(.lockGained, i.pairSpeed)])
      else ({ w with lockCount := n }, [])
  | .locked =>
    if far then ({ w with loop := .acquire, acquireCount := 0 }, lockLost w .acquire)
    else
      let n := if par i.params 23 < e then w.exitCount + 1 else 0
      if 2 ≤ n then ({ w with loop := .track, exitCount := n, lockCount := 0 }, lockLost w .track)
      else ({ w with exitCount := n }, [])
  | .off | .stalled | .backoff | .faulted => (w, [])

/-- Jam detection in ACQUIRE, TRACK and LOCKED, and where no jam is detected the window transitions (R76, R84). -/
def wheelDriving (i : WheelInput) (w : Wheel) : Wheel × List Raise :=
  let hit := par i.params 28 ≤ i.pressure ∧ i.pairSpeed ≤ par i.params 29
  let n := if i.pressureValid then (if hit then w.jamCount + 1 else 0) else w.jamCount
  if i.pressureValid ∧ hit ∧ parN i.params 30 ≤ n then wheelJammed i w
  else
    let counted := { w with jamCount := n }
    if 0 < w.ramped then wheelWindows i counted else (counted, [])

/-- The loop starts from nothing: ACQUIRE with u, residue and the acquire and jam counts at 0 (R76, R87). -/
def wheelStart (w : Wheel) : Wheel :=
  { w with loop := .acquire, u := 0, residue := 0, acquireCount := 0, jamCount := 0 }

/-- Stage 2 (R70, R76): at most one transition of the loop state. -/
def wheelTransition (i : WheelInput) (w0 : Wheel) : Wheel × List Raise :=
  let w := expireJams i w0
  match w.loop with
  | .stalled =>
    if w.stallCount = 5 then ({ w with loop := .backoff, backoffCount := 1 }, [])
    else ({ w with stallCount := w.stallCount + 1 }, [])
  | .backoff =>
    if w.backoffCount = parN i.params 32 then
      (if 0 < w.ramped then (wheelStart w, []) else ({ w with loop := .off }, []))
    else ({ w with backoffCount := w.backoffCount + 1 }, [])
  | .faulted =>
    if i.mode = .hold ∨ i.mode = .stop then ({ w with loop := .off, history := [] }, []) else (w, [])
  | .off => if 0 < w.target then (wheelStart w, []) else (w, [])
  | .acquire | .track | .locked => wheelDriving i w

/-- Wind-down at a ramped target of 0 (R82). -/
def wheelWindDown (i : WheelInput) (w : Wheel) : Wheel × List Raise :=
  let u := max 0 (w.u - par i.params 26)
  let down := { w with u := u, residue := 0, acquireCount := 0, lockCount := 0, exitCount := 0 }
  if u = 0 then ({ down with loop := .off, jamCount := 0 }, lockLost w .off) else (down, [])

/-- The integral step with the gain of the state held (R81). -/
def wheelStep (i : WheelInput) (w : Wheel) : Wheel :=
  let gain := if w.loop = .acquire then par i.params 20 else par i.params 21
  let r := integralStep gain w.error (par i.params 26) w.u w.residue
  { w with u := r.1, residue := r.2 }

/-- The drive output of the state held (R83). -/
def driveOutput (i : WheelInput) (w : Wheel) : Int :=
  match w.loop with
  | .off | .stalled | .faulted => 0
  | .acquire | .track | .locked => if w.direction = .forward then w.u else -w.u
  | .backoff => if w.direction = .forward then -(par i.params 31) else par i.params 31

/-- Stage 3 (R70): u and the drive output. -/
def wheelOutput (i : WheelInput) (w : Wheel) : Wheel × List Raise :=
  let r := if w.loop.driving then (if 0 < w.ramped then (wheelStep i w, []) else wheelWindDown i w) else (w, [])
  ({ r.1 with drive := driveOutput i r.1 }, r.2)

/-- One compute of the wheel role (R70), with its raises in order. -/
def wheelCompute (i : WheelInput) (w : Wheel) : Wheel × List Raise :=
  let moved := wheelTransition i (wheelTarget i w)
  let out := wheelOutput i moved.1
  (out.1, moved.2 ++ out.2)

/-- A STOP DEMAND at its arrival (R90). -/
def wheelStop (w : Wheel) : Wheel × List Raise :=
  ({ w with loop := .off, u := 0, residue := 0, ramped := 0, drive := 0, acquireCount := 0, lockCount := 0,
            exitCount := 0, jamCount := 0, stallCount := 0, backoffCount := 0,
            history := if w.loop = .faulted then [] else w.history },
   lockLost w .off)

end Sys2Proof.Machine
end

