-- ==== Sys2Proof/Machine/Reporting.lean ====
section
/-! DEFINITION. The REPORT a station offers at a mark (R172; spec/01 section 1.2; R91, R126, R146). -/

namespace Sys2Proof.Machine

/-- A quantity as a two-byte field. -/
def field (v : Int) : Half := BitVec.ofInt 16 v

/-- The WHEEL role part (R91). -/
def State.wheelPart (s : State) : WheelPart :=
  { speed1 := field s.front.pulse1.speed, speed2 := field s.front.pulse2.speed, pairSpeed := field s.front.pairSpeed
    pressure := field (s.input 0).value, loop := BitVec.ofNat 8 s.wheel.loop.code, mode := s.arb.mode.code
    inEffect := field s.arb.inEffect, drive := field s.wheel.drive }

/-- The STEER role part (R126). -/
def State.steerPart (s : State) : SteerPart :=
  { tiltX := field (s.input 0).value, tiltY := field (s.input 1).value, offX := field s.steer.offX
    offY := field s.steer.offY, flapL := field s.steer.flapL, flapR := field s.steer.flapR
    posL := field (s.input 2).value, posR := field (s.input 3).value, fusion := s.steer.fusion.code }

/-- The RETURN role part (R146). -/
def State.returnPart (s : State) : ReturnPart :=
  { flow := field (s.input 0).value, density := field (s.input 1).value, suction := field (s.input 2).value
    output := field s.ret.u, target := field s.ret.flowTarget, trim := field s.ret.trim, state := s.ret.state.code
    cavitating := if s.ret.cavitating then 1 else 0 }

/-- The role part by station state and role (spec/01 section 1.2). -/
def State.rolePart (s : State) : RolePart :=
  match s.control.station with
  | .configFault => .configFault (BitVec.ofNat 8 s.control.failingCheck)
  | .ready | .active =>
    match s.role with
    | some .wheel => .wheel s.wheelPart
    | some .steer => .steer s.steerPart
    | some .ret => .ret s.returnPart
    | none => .none
  | .setup | .starting | .strapFault | .clash => .none

/-- The station state a REPORT carries; STARTING, STRAP FAULT and CLASH send none (spec/01 section 1.2). -/
def reportedState : StationState → ReportedState
  | .configFault => .configFault
  | .ready => .ready
  | .active => .active
  | .setup | .starting | .strapFault | .clash => .setup

/-- The REPORT as it stands at the offer (R172); a station that has run no compute since its last reset reports the
period count as its sample period number (R33). -/
def State.reportNow (s : State) : Report :=
  { station := reportedState s.control.station, mode := s.modeInForce.code, role := s.role.getD .wheel
    side := if s.role = some .ret then .zero else s.control.straps.side
    isolated := s.line.health == .isolated, frozen := s.duty.frozen
    leader := s.role == some .wheel && s.arb.leaderBit
    flags := s.maskedFlags, sample := s.marker.sample.getD s.marker.count, part := s.rolePart }

/-- Station control offers the REPORT of a mark (R172). -/
def State.offerReport (s : State) : State := s.offer (.report s.reportNow)

end Sys2Proof.Machine
end

