-- ==== Sys2Proof/Machine/ReturnRole.lean ====
section
/-! DEFINITION. Slurry return of spec/08: demand figures, return states, cavitation, flow target, pump output, and STOP
at arrival. -/

namespace Sys2Proof.Machine

/-- What the return role reads at a compute (R129, R130): parameters, mode in force, flow, density and suction with
their validity, penetration rate, density limit and fresh density of row 0. -/
structure ReturnInput where
  params : ParamTable
  mode : Mode
  flow : Int
  flowValid : Bool
  density : Int
  densityValid : Bool
  suction : Int
  suctionValid : Bool
  rate : Int
  densityLimit : Int
  freshDensity : Int
  deriving DecidableEq, Repr

/-- The effective density limit (R131). -/
def effectiveLimit (i : ReturnInput) : Int := max i.densityLimit (i.freshDensity + 20)

/-- The required flow (R132). -/
def requiredFlow (i : ReturnInput) : Int :=
  min 65535 (divUp (par i.params 53 * i.rate * 6 * (par i.params 54 - i.freshDensity))
    (100000 * (effectiveLimit i - i.freshDensity)))

/-- The density trim as a compute under CUT moves it (R133, R144). -/
def movedTrim (i : ReturnInput) (w : Return) : Int :=
  if i.mode = .cut ∧ (w.state = .running ∨ w.state = .limited ∨ w.state = .blocked) ∧ i.densityValid then
    if effectiveLimit i < i.density then min (w.trim + 10) (par i.params 56)
    else if i.density ≤ effectiveLimit i - 10 then max (w.trim - 1) 0
    else w.trim
  else w.trim

/-- The uncapped demand, from the trim of this compute (R134). -/
def uncappedDemand (i : ReturnInput) (trim : Int) : Int :=
  match i.mode with
  | .cut => min 65535 (max (requiredFlow i) (par i.params 55) + trim)
  | .hold | .lift => par i.params 55
  | .stop => 0

/-- The running target (R134). -/
def runningTarget (i : ReturnInput) (trim : Int) : Int :=
  match i.mode with
  | .cut => min (uncappedDemand i trim) (par i.params 56)
  | .hold | .lift => par i.params 55
  | .stop => 0

/-- IDLE, with u, residue, trim, counts and runs at 0 and the cavitation condition ended (R136, R145). -/
def returnIdle (w : Return) : Return :=
  { w with state := .idle, u := 0, residue := 0, trim := 0, cavitating := false, primeCount := 0, primeRun := 0,
           limitedExit := 0, blockedRun := 0, clearRun := 0 }

/-- The return goes to RUNNING out of PRIMING or BLOCKED (R137, R140). -/
def returnRun (w : Return) : Return := { w with state := .running, limitedExit := 0, blockedRun := 0 }

/-- The return goes to BLOCKED, raised with the flow (R137, R139). -/
def returnBlock (i : ReturnInput) (w : Return) : Return × List Raise :=
  ({ w with state := .blocked, clearRun := 0 }, [(.returnBlocked, i.flow)])

/-- PRIMING after its entry compute (R137); the prime count stays within its range of R129, 0 to P60 (log 23). -/
def returnPriming (i : ReturnInput) (w : Return) : Return × List Raise :=
  let count := satSucc (parN i.params 60) w.primeCount
  let run := if par i.params 55 * 8 ≤ i.flow * 10 then w.primeRun + 1 else 0
  let counted := { w with primeCount := count, primeRun := run }
  if 5 ≤ run then (returnRun counted, [])
  else if parN i.params 60 ≤ count then returnBlock i counted
  else (counted, [])

/-- RUNNING and LIMITED (R138, R139): the blocked test, then the tests against the maximum flow. -/
def returnRunning (i : ReturnInput) (w : Return) : Return × List Raise :=
  let run := if 900 ≤ w.u ∧ i.flow * 5 ≤ runningTarget i w.trim then w.blockedRun + 1 else 0
  let counted := { w with blockedRun := run }
  if parN i.params 61 ≤ run then returnBlock i counted
  else if w.state = .running then
    if par i.params 56 < uncappedDemand i w.trim then
      ({ counted with state := .limited, limitedExit := 0 }, [(.returnLimited, uncappedDemand i w.trim)])
    else (counted, [])
  else
    let exit := if uncappedDemand i w.trim ≤ par i.params 56 then w.limitedExit + 1 else 0
    if 10 ≤ exit then ({ counted with state := .running, limitedExit := exit }, [])
    else ({ counted with limitedExit := exit }, [])

/-- BLOCKED after its entry compute (R140). -/
def returnBlockedState (i : ReturnInput) (w : Return) : Return :=
  let run := if runningTarget i w.trim ≤ i.flow * 2 then w.clearRun + 1 else 0
  let counted := { w with clearRun := run }
  if 10 ≤ run then returnRun counted else counted

/-- Stage 2 (R130, R136 to R140, R143): at most one transition. -/
def returnTransition (i : ReturnInput) (w : Return) : Return × List Raise :=
  if i.mode = .stop then (returnIdle w, [])
  else
    match w.state with
    | .idle => ({ returnIdle w with state := .priming, primeCount := 1 }, [])
    | .priming => if i.flowValid then returnPriming i w else (w, [])
    | .running | .limited => if i.flowValid then returnRunning i w else (w, [])
    | .blocked => if i.flowValid then (returnBlockedState i w, []) else (w, [])

/-- Stage 3 (R141, R144): the cavitation condition, with its raise. -/
def returnCavitation (i : ReturnInput) (w : Return) : Return × List Raise :=
  if w.state = .idle then ({ w with cavitating := false }, [])
  else if !i.suctionValid then (w, [])
  else if i.suction < par i.params 58 ∧ !w.cavitating then
    ({ w with cavitating := true }, [(.cavitation, i.suction)])
  else if par i.params 58 + par i.params 59 ≤ i.suction then ({ w with cavitating := false }, [])
  else (w, [])

/-- Stage 4 (R134): the flow target of the state held. -/
def returnTarget (i : ReturnInput) (w : Return) : Return :=
  { w with flowTarget :=
      match w.state with
      | .idle => 0
      | .priming => par i.params 55
      | .running | .limited | .blocked => runningTarget i w.trim }

/-- Stage 5 (R135, R142, R143): the pump output. -/
def returnPump (i : ReturnInput) (w : Return) : Return :=
  if w.state = .idle then { w with u := 0, residue := 0 }
  else if w.cavitating then { w with u := max 0 (w.u - 5), residue := 0 }
  else if !i.flowValid then w
  else
    let r := integralStep (par i.params 57) (w.flowTarget - i.flow) (par i.params 26) w.u w.residue
    { w with u := r.1, residue := r.2 }

/-- One compute of the return role (R130), with its raises in order. -/
def returnCompute (i : ReturnInput) (w : Return) : Return × List Raise :=
  let moved := returnTransition i { w with trim := movedTrim i w }
  let cav := returnCavitation i moved.1
  (returnPump i (returnTarget i cav.1), moved.2 ++ cav.2)

/-- A STOP DEMAND at its arrival (R145). -/
def returnStop (w : Return) : Return := { returnIdle w with flowTarget := 0 }

end Sys2Proof.Machine
end

