-- ==== Sys2Proof/Machine/SteerRole.lean ====
section
/-! DEFINITION. Verticality and steering flaps of spec/07: offset reset, tilt fusion, averaging, depth step and
integration, stuck test, flap demands. -/

namespace Sys2Proof.Machine

/-- What the steering role reads at a compute (R112, R113): parameters, mode in force, whether the station is ACTIVE,
side, own tilts and their validity, flap positions and their validity, applied values of channels 0 and 1, the peer row
selected by R114, target offsets and depth of row 0, period count. -/
structure SteerInput where
  params : ParamTable
  mode : Mode
  active : Bool
  side : Side
  tiltX : Int
  tiltY : Int
  tiltValid : Bool
  posL : Int
  posR : Int
  posLValid : Bool
  posRValid : Bool
  appliedL : Int
  appliedR : Int
  peer : Option PeerContent
  targetX : Int
  targetY : Int
  depth : Int
  now : Half
  deriving DecidableEq, Repr

/-- Stage 1: a pending offset reset is acted on, then an offset reset period 64 periods old or older becomes none
(R120, R122). -/
def steerReset (i : SteerInput) (w : Steer) : Steer :=
  let r :=
    if w.resetPending then
      { w with offX := 0, offY := 0, resX := 0, resY := 0, depthRef := none, resetPeriod := some i.now,
               resetPending := false }
    else w
  match r.resetPeriod with
  | none => r
  | some p => if 64 ≤ periodAge i.now p then { r with resetPeriod := none } else r

/-- The STEER part of the peer row where the peer's tilt is sound (R114). -/
def soundPeer (i : SteerInput) : Option SteerPart :=
  match i.peer with
  | none => none
  | some c =>
    match c.part with
    | .steer p =>
      if !c.sensorFault ∧ (p.fusion = Fusion.paired.code ∨ p.fusion = Fusion.single.code ∨ p.fusion = Fusion.disagree.code)
      then some p else none
    | _ => none

/-- The axes outside the agree limit: 1 for x, 2 for y, 3 for both, 0 for none (R115, R116). -/
def axesOutside (i : SteerInput) (p : SteerPart) : Int :=
  (if par i.params 49 < mag (i.tiltX - p.tiltX.toInt) then 1 else 0) +
  (if par i.params 49 < mag (i.tiltY - p.tiltY.toInt) then 2 else 0)

/-- A tilt formed from a peer's report: the formula's value where it keeps the range of R112, else a free value in that
range (log 11). -/
def tiltInRange (own reported formed : Int) : Int :=
  if mag formed ≤ 20000 then formed else clamp (-20000) 20000 (Config.unstatedTilt own reported)

/-- The fusion state and the used tilt (R115, R117). -/
def fuse (i : SteerInput) (w : Steer) : Fusion × Int × Int :=
  match soundPeer i with
  | some p =>
    let px := p.tiltX.toInt
    let py := p.tiltY.toInt
    if i.tiltValid then
      if axesOutside i p = 0 then
        (.paired, tiltInRange i.tiltX px (divZero (i.tiltX + px) 2), tiltInRange i.tiltY py (divZero (i.tiltY + py) 2))
      else (.disagree, i.tiltX, i.tiltY)
    else (.borrowed, tiltInRange i.tiltX px px, tiltInRange i.tiltY py py)
  | none => if i.tiltValid then (.single, i.tiltX, i.tiltY) else (.blind, w.usedX, w.usedY)

/-- Stage 2 (R114 to R117), with TILT DISAGREE on entering DISAGREE. -/
def steerFuse (i : SteerInput) (w : Steer) : Steer × List Raise :=
  let f := fuse i w
  let raises : List Raise :=
    match soundPeer i with
    | some p => if f.1 = .disagree ∧ w.fusion ≠ .disagree then [(.tiltDisagree, axesOutside i p)] else []
    | none => []
  ({ w with fusion := f.1, usedX := f.2.1, usedY := f.2.2 }, raises)

/-- An averaged offset: the formula's value where it keeps the range of R121, else a free value in that range
(log 11). -/
def averageOffset (own reported : Int) : Int :=
  let v := divZero (own + reported) 2
  if mag v ≤ 32000 then v else clamp (-32000) 32000 (Config.unstatedOffset own reported)

/-- Averaging with the peer at a PAIRED compute under CUT, held back after an offset reset (R120). -/
def steerAverage (i : SteerInput) (w : Steer) : Steer :=
  match w.fusion, i.peer with
  | .paired, some c =>
    match c.part with
    | .steer p =>
      let averaged := { w with resetPeriod := none, offX := averageOffset w.offX p.offX.toInt,
                               offY := averageOffset w.offY p.offY.toInt }
      match w.resetPeriod with
      | none => averaged
      | some r => if periodAge c.sample r < 32768 then averaged else w
    | _ => w
  | _, _ => w

/-- One axis of the integration: new offset and residue (R121). -/
def integrateAxis (tilt step offset residue : Int) : Int × Int :=
  let p := tilt * step + residue
  let q := divZero p 1000
  let sum := offset + q
  if sum < -32000 then (-32000, 0) else if 32000 < sum then (32000, 0) else (sum, p - 1000 * q)

/-- The depth step (R118, R119, R121). -/
def steerDepth (i : SteerInput) (w : Steer) : Steer × List Raise :=
  let moved := { w with depthRef := some i.depth }
  match w.depthRef with
  | none => (moved, [])
  | some ref =>
    let step := i.depth - ref
    if step < 0 then (moved, [])
    else if par i.params 50 < step then (moved, [(.depthJump, step)])
    else if w.fusion = .blind then (moved, [])
    else
      let x := integrateAxis w.usedX step w.offX w.resX
      let y := integrateAxis w.usedY step w.offY w.resY
      ({ moved with offX := x.1, resX := x.2, offY := y.1, resY := y.2 }, [])

/-- Stage 3 (R113): averaging and the depth step, under CUT alone. -/
def steerOffsets (i : SteerInput) (w : Steer) : Steer × List Raise :=
  if i.mode = .cut then steerDepth i (steerAverage i w) else (w, [])

/-- The stuck test of one flap: new count, new condition, and whether the condition comes to hold (R125). -/
def stuckTest (i : SteerInput) (valid : Bool) (applied pos : Int) (count : Nat) (stuck : Bool) : Nat × Bool × Bool :=
  if !valid then (count, stuck, false)
  else if par i.params 51 < mag (applied - pos) then
    let n := satSucc (parN i.params 52) count
    let holds := stuck || decide (parN i.params 52 ≤ n)
    (n, holds, holds && !stuck)
  else (0, false, false)

/-- Stage 4 (R125). No rule orders the raises of two flaps that become stuck at one compute: L comes before R
(DESIGN CHOICE, log 34). -/
def steerStuck (i : SteerInput) (w : Steer) : Steer × List Raise :=
  let l := stuckTest i i.posLValid i.appliedL i.posL w.stuckCountL w.stuckL
  let r := stuckTest i i.posRValid i.appliedR i.posR w.stuckCountR w.stuckR
  ({ w with stuckCountL := l.1, stuckL := l.2.1, stuckCountR := r.1, stuckR := r.2.1 },
   (if l.2.2 then [(.flapStuck, 0)] else []) ++ (if r.2.2 then [(.flapStuck, 1)] else []))

/-- The steering commands of R123, steps 1 to 3: half of cx and half of cy. -/
def steerHalves (i : SteerInput) (w : Steer) : Int × Int :=
  let cx := clamp (-1000) 1000 (divZero (par i.params 44 * (i.targetX - w.offX) - par i.params 46 * w.usedX) 64)
  let cy := clamp (-1000) 1000 (divZero (par i.params 45 * (i.targetY - w.offY) - par i.params 47 * w.usedY) 64)
  (divZero cx 2, divZero cy 2)

/-- The flap demands under CUT, L and R (R123). -/
def cutDemands (i : SteerInput) (w : Steer) : Int × Int :=
  let h := steerHalves i w
  let n := par i.params 48
  match i.side with
  | .zero => (clamp 0 1000 (n - h.2 + h.1), clamp 0 1000 (n - h.2 - h.1))
  | .one => (clamp 0 1000 (n + h.2 + h.1), clamp 0 1000 (n + h.2 - h.1))

/-- The flap demands by station state and mode in force, before the stuck hold (R124). -/
def modeDemands (i : SteerInput) (w : Steer) : Int × Int :=
  if i.active then
    match i.mode with
    | .cut => cutDemands i w
    | .hold | .stop => (i.appliedL, i.appliedR)
    | .lift => (0, 0)
  else (0, 0)

/-- Stage 5 (R123 to R125): a stuck flap's demand is its applied value. -/
def steerDemands (i : SteerInput) (w : Steer) : Steer :=
  let d := modeDemands i w
  { w with flapL := if w.stuckL then i.appliedL else d.1, flapR := if w.stuckR then i.appliedR else d.2 }

/-- One compute of the steering role (R113), with its raises in order. -/
def steerCompute (i : SteerInput) (w : Steer) : Steer × List Raise :=
  let fused := steerFuse i (steerReset i w)
  let moved := steerOffsets i fused.1
  let tested := steerStuck i moved.1
  (steerDemands i tested.1, fused.2 ++ moved.2 ++ tested.2)

end Sys2Proof.Machine
end

