-- ==== Sys2Proof/Machine/StationControl.lean ====
section
/-! DEFINITION. Station control of spec/10: the strap reading (R159), SETUP (R161), validation (R162), the DEMAND (R164
to R166), RESTART (R167) and power-on reset (R168). -/

namespace Sys2Proof.Machine

/-! ### Timers -/

/-- The length in µs of a start of the period timer: T plus 0.2 ms times the own number (R24). -/
def State.periodLength (s : State) : Nat := 1000 * parN s.control.params 1 + 200 * s.number.toNat

/-- The length in µs of a start of the compute timer: P2, or T − 1 ms where P2 is T or more (R30). -/
def State.computeLength (s : State) : Nat :=
  if s.param 2 < s.param 1 then 1000 * parN s.control.params 2 else 1000 * (parN s.control.params 1 - 1)

/-- The period timer is started (R24). -/
def State.startPeriodTimer (s : State) : State :=
  { s with marker := { s.marker with periodTimer := some s.periodLength } }

/-! ### Straps and resets -/

/-- The settled flag after the straps are read at a reset: a role other than the validated one clears it (R162); for the
invalid code 3 see log 12. -/
def settledAfter (c : Control) (straps : Straps) : Bool :=
  c.settled &&
    match roleOfCode straps.role with
    | none => Config.invalidRoleKeepsSettled
    | some r => c.validatedRole == some r

/-- The filter of a pulse input starts: its next sample is its first (R55). -/
def Pulse.start (p : Pulse) : Pulse := { p with running := true, primed := false }

/-- Station control passes through STARTING: the straps are read, and the station goes to STRAP FAULT, or with its
period timer and pulse filters started to READY or SETUP (R159). -/
def State.readStraps (s : State) (straps : Straps) : State :=
  let settled := settledAfter s.control straps
  let read := { s with control := { s.control with straps := straps, settled := settled } }
  if strapsValid straps then
    { read with
      control := { read.control with station := if settled then .ready else .setup, setupCount := 0 }
      front := { read.front with pulse1 := read.front.pulse1.start, pulse2 := read.front.pulse2.start } }
    |>.startPeriodTimer
  else { read with control := { read.control with station := .strapFault } }

/-- Every state takes its power-on value (R168); the queue of commands is not the station's, and the causes of reset
stand as given. -/
def State.powerOn (s : State) (hold : ResetHold) : State := { State.reset with pending := s.pending, hold := hold }

/-- The counters after RESTART: values and overflow flags kept, previous conditions false (R158). -/
def Counter.restarted (c : Counter) : Counter := { c with previous := false }

/-- RESTART before the straps are read: every block takes its reset state but for what R167 keeps. -/
def State.restarted (s : State) : State :=
  let fresh := s.powerOn s.hold
  { fresh with
    control := { fresh.control with params := s.control.params, settled := s.control.settled,
                                    validatedRole := s.control.validatedRole }
    duty := { fresh.duty with counters := ⟨⟨s.duty.counters.toList.map Counter.restarted⟩, by simp⟩ }
    steer := { fresh.steer with offX := s.steer.offX, offY := s.steer.offY, resX := s.steer.resX, resY := s.steer.resY } }

/-- RESTART (R167). -/
def State.restart (s : State) (straps : Straps) : State := s.restarted.readStraps straps

/-- A cause of power-on reset begins (R168). -/
def ResetHold.begin (h : ResetHold) : ResetCause → ResetHold
  | .supplyRise | .supplyDip => { h with supply := true }
  | .resetPin => { h with pin := true }

/-- A cause of power-on reset ends (R168). -/
def ResetHold.finish (h : ResetHold) : ReleaseCause → ResetHold
  | .supplyStood => { h with supply := false }
  | .pinHigh => { h with pin := false }

/-! ### Validation -/

/-- Check `n` of R162 passes. -/
def State.checkPasses (s : State) : Nat → Bool
  | 1 => s.param 2 < s.param 1
  | 2 => s.param 36 < s.param 35
  | 3 => s.param 23 ≤ s.param 22
  | 4 => s.param 55 ≤ s.param 56
  | 5 => s.param 12 ≠ s.param 13
  | 6 => s.param 14 ≠ s.param 15 || s.role = some .wheel
  | 7 => s.param 16 ≠ s.param 17 || s.role = some .wheel
  | 8 => s.param 18 ≠ s.param 19 || s.role ≠ some .steer
  | _ => true

/-- The first check that fails, in order (R162). -/
def State.firstFailing (s : State) : Option Nat := [1, 2, 3, 4, 5, 6, 7, 8].find? fun n => !s.checkPasses n

/-- Validation (R162). -/
def State.validate (s : State) : State :=
  match s.firstFailing with
  | none => { s with control := { s.control with settled := true, validatedRole := s.role, station := .ready } }
  | some n => { s with control := { s.control with settled := false, failingCheck := n, station := .configFault } }

/-- A mark taken in SETUP raises the window count, and at 300 validation runs (R160). -/
def State.windowMark (s : State) : State :=
  if s.control.station = .setup then
    let counted := { s with control := { s.control with setupCount := s.control.setupCount + 1 } }
    if 300 ≤ counted.control.setupCount then counted.validate else counted
  else s

/-! ### SETUP -/

/-- The counter that parameter `n` programs, for P62 to P73 (R149). -/
def counterOf (n : Nat) : Option (Fin 4) :=
  if h : 62 ≤ n ∧ n ≤ 73 then some ⟨(n - 62) / 3, by omega⟩ else none

/-- Counter `i` changed by `f`. -/
def Duty.update (d : Duty) (i : Fin 4) (f : Counter → Counter) : Duty :=
  { d with counters := d.counters.set i.val (f d.counters[i]) i.isLt }

/-- What storing parameter `n` does beside the table: a smaller P11 shrinks the rings at once (R58), and a counter's
parameter sets its previous condition to false (R149). -/
def State.stored (s : State) (n : Nat) : State :=
  if n = 11 then
    { s with front := { s.front with
        pulse1 := { s.front.pulse1 with ring := newest (parN s.control.params 11) s.front.pulse1.ring }
        pulse2 := { s.front.pulse2 with ring := newest (parN s.control.params 11) s.front.pulse2.ring } } }
  else
    match counterOf n with
    | none => s
    | some i => { s with duty := s.duty.update i Counter.restarted }

/-- SETUP acted on in SETUP or CONFIG FAULT (R161). -/
def State.setupParam (s : State) (n : Nat) (value : Half) : State :=
  match paramRow n with
  | none => s
  | some row =>
    let raw := setupValue n value
    let v := clamp row.lo row.hi raw
    let told := if v = raw then s else s.raise .valueClamped n
    let count := if s.control.station = .setup then 0 else s.control.setupCount
    State.stored
      { told with control := { told.control with params := setPar told.control.params n v, setupCount := count } } n

/-! ### DEMAND -/

/-- A STOP DEMAND acts at its arrival on the output stage (R35), the wheel loop (R90) and the return (R145). -/
def State.stopArrival (s : State) : State :=
  match s.role with
  | some .wheel => { s.zero0 with wheel := (wheelStop s.wheel).1 } |>.raiseAll (wheelStop s.wheel).2
  | some .ret => { s.zero0 with ret := returnStop s.ret }
  | some .steer => s
  | none => s

/-- The direction row 0 held before a DEMAND, FORWARD if it was NEVER (R165). -/
def State.directionBefore (s : State) : Direction :=
  match s.row0.content? with
  | none => .forward
  | some d => d.direction

/-- A DEMAND taken in READY or ACTIVE, beyond the refresh of row 0 (R164 to R166, R122, R131). -/
def State.demandTaken (s : State) (f : DemandFields) (d : DemandContent) : State :=
  let told := s.raiseAll ((clampedFields (s.role == some .ret) f d).map fun n => (EventCode.valueClamped, n))
  let active := { told with control := { told.control with station := .active } }
  let asked :=
    if s.role = some .steer ∧ f.offsetReset ≠ 0 then { active with steer := { active.steer with resetPending := true } }
    else active
  if d.mode = .stop then asked.stopArrival else asked

/-- A delivered DEMAND: its fields are handled and refresh row 0 (R42); READY and ACTIVE take it (R164). -/
def State.takeDemand (s : State) (f : DemandFields) : State :=
  let d := handleDemand s.directionBefore f
  let refreshed := s.refreshRow0 d
  if s.control.station.computes then refreshed.demandTaken f d else refreshed

end Sys2Proof.Machine
end

