-- ==== Sys2Proof/Machine/DutyCounters.lean ====
section
/-! DEFINITION. The duty counters of spec/09: sources (R150), counting and overflow (R151, R152), freezing (R153, R154),
thaw, load, query and their answers (R155 to R157). -/

namespace Sys2Proof.Machine

/-- What a source reads at a compute; a source of another role reads 0 (R150). -/
def State.sourceReading (s : State) (source : Int) : Int :=
  let ofRole (r : Role) (v : Int) : Int := if s.role = some r then v else 0
  if source = 1 then ofRole .wheel (s.input 0).value
  else if source = 2 then ofRole .wheel s.front.pairSpeed
  else if source = 3 then ofRole .wheel (if s.wheel.loop = .locked then 0 else 1)
  else if source = 4 then ofRole .wheel (if s.arb.mode = .steer then 1 else 0)
  else if source = 5 then ofRole .steer (mag s.steer.usedX)
  else if source = 6 then ofRole .steer (mag s.steer.usedY)
  else if source = 7 then ofRole .steer (mag s.steer.offX)
  else if source = 8 then ofRole .steer (mag s.steer.offY)
  else if source = 9 then ofRole .ret (s.input 1).value
  else if source = 10 then ofRole .ret (s.input 0).value
  else if source = 11 then ofRole .ret (s.input 2).value
  else if source = 12 then ofRole .ret (if s.ret.state = .running then 0 else 1)
  else if source = 13 then (if s.modeInForce = .cut then 1 else 0)
  else if source = 14 then s.staleRows
  else if source = 15 then mag s.ch0.applied
  else 0

/-- The source of counter `i` (R149). -/
def State.counterSource (s : State) (i : Fin 4) : Int := s.param (62 + 3 * i.val)

/-- The threshold of counter `i` (R149). -/
def State.counterThreshold (s : State) (i : Fin 4) : Int := s.param (63 + 3 * i.val)

/-- An option of counter `i`: bit 0 invert, bit 1 edge, bit 2 halt-on-overflow (R149). -/
def State.counterOption (s : State) (i : Fin 4) (bit : Nat) : Bool := (parN s.control.params (64 + 3 * i.val)).testBit bit

/-- The condition of counter `i` (R151). -/
def State.counterCondition (s : State) (i : Fin 4) : Bool :=
  let reading := s.sourceReading (s.counterSource i)
  if s.counterOption i 0 then reading < s.counterThreshold i else s.counterThreshold i ≤ reading

/-- Counter `i` counts at this compute (R151). -/
def State.counterCounts (s : State) (i : Fin 4) : Bool :=
  s.counterCondition i && !(s.counterOption i 1 && s.duty.counters[i].previous)

/-- A counter counted once, or not, with its condition recorded (R151, R152). -/
def Counter.counted (c : Counter) (counts condition : Bool) : Counter :=
  if counts then
    { value := c.value + 1, overflow := c.overflow || c.value == BitVec.allOnes 32, previous := condition }
  else { c with previous := condition }

/-- The count of counter `i` wraps with halt-on-overflow set and its overflow flag clear before (R152). -/
def State.counterHalts (s : State) (i : Fin 4) : Bool :=
  s.counterCounts i && s.duty.counters[i].value == BitVec.allOnes 32 && s.counterOption i 2 &&
    !s.duty.counters[i].overflow

/-- Counter `i` is evaluated at a compute (R151, R152). -/
def State.evalCounter (s : State) (i : Fin 4) : State :=
  if s.counterSource i = 0 then s
  else
    let counted :=
      { s with duty := s.duty.update i fun c => c.counted (s.counterCounts i) (s.counterCondition i) }
    if s.counterHalts i then counted.offer (.countHalt (BitVec.ofNat 8 i.val)) else counted

/-- The duty counters at a compute: all four in ascending index, while RUNNING (R151). -/
def State.dutyCompute (s : State) : State :=
  if s.duty.frozen then s else ([0, 1, 2, 3] : List (Fin 4)).foldl State.evalCounter s

/-- The pending own COUNT HALT is withdrawn (R15, R153). -/
def State.withdrawHalt (s : State) : State := { s with outbound := s.outbound.withdraw .countHalt }

/-- The own COUNT HALT has left the slot, SENT or discarded (R153). -/
def State.freezeOwn (s : State) : State :=
  { s with duty := { s.duty with frozen := true, halting := s.number } } |>.withdrawHalt

/-- A COUNT HALT is taken from station `source` (R154). -/
def State.takeHalt (s : State) (source : Nibble) : State :=
  { s with duty := if s.duty.frozen then s.duty else { s.duty with frozen := true, halting := source } } |>.withdrawHalt

/-- COUNT THAW (R155). -/
def State.takeThaw (s : State) : State := { s with duty := { s.duty with frozen := false, halting := 15 } }

/-- The statuses of a COUNT ANSWER (spec/01 section 1.2): VALUE, LOADED, REFUSED RUNNING, NO SUCH COUNTER. -/
inductive AnswerStatus where
  | value | loaded | refusedRunning | noSuchCounter
  deriving DecidableEq, Repr

/-- The code of a status. -/
def AnswerStatus.code : AnswerStatus → Byte
  | .value => 0 | .loaded => 1 | .refusedRunning => 2 | .noSuchCounter => 3

/-- The counter a request names, none for an index of 4 or more (R156, R157). -/
def counterIndex (index : Byte) : Option (Fin 4) :=
  if h : index.toNat < 4 then some ⟨index.toNat, h⟩ else none

/-- The COUNT ANSWER to a request, from the counter as the request leaves it (R157). -/
def State.answer (s : State) (index : Byte) (status : AnswerStatus) : CountAnswer :=
  let c := (counterIndex index).map fun i => s.duty.counters[i]
  { index := index, status := status.code, value := (c.map Counter.value).getD 0
    overflow := (c.map Counter.overflow).getD false, frozen := s.duty.frozen, halting := s.duty.halting }

/-- The answer is offered under the key of its index (R156, R157). -/
def State.offerAnswer (s : State) (index : Byte) (status : AnswerStatus) : State :=
  s.offer (.countAnswer (s.answer index status))

/-- A loaded counter: the value as loaded, the overflow flag cleared (R156). -/
def Counter.load (v : Quad) (c : Counter) : Counter := { c with value := v, overflow := false }

/-- COUNT LOAD (R156). -/
def State.takeLoad (s : State) (index : Byte) (v : Quad) : State :=
  match counterIndex index with
  | none => s.offerAnswer index .noSuchCounter
  | some i =>
    if s.duty.frozen then { s with duty := s.duty.update i (Counter.load v) } |>.offerAnswer index .loaded
    else s.offerAnswer index .refusedRunning

/-- COUNT QUERY (R157). -/
def State.takeQuery (s : State) (index : Byte) : State :=
  match counterIndex index with
  | none => s.offerAnswer index .noSuchCounter
  | some _ => s.offerAnswer index .value

end Sys2Proof.Machine
end

