-- ==== Sys2Proof/Machine/PeriodMarks.lean ====
section
/-! DEFINITION. The period marker of spec/02: the MARK offer at the timer's expiry (R24) and taking a mark, with what
every block does at it (R26 to R30 and the table of section 2.2). -/

namespace Sys2Proof.Machine

/-- Where a mark comes from: another station's MARK, or the station's own MARK at SENT or local mark (R20, R26). -/
inductive MarkOrigin where
  | other | own
  deriving DecidableEq, Repr

/-- The period timer runs out: a MARK carrying the period count plus 1 is offered and the timer restarts (R24). -/
def State.timerExpired (s : State) : State := (s.offer (.mark (s.marker.count + 1))).startPeriodTimer

/-- The isolation count at a mark: the own and local marks raise it, and at 3 the line health is ISOLATED (R20). -/
def Line.atMark (origin : MarkOrigin) (l : Line) : Line :=
  match origin with
  | .other => l
  | .own =>
    { l with isolation := satSucc 3 l.isolation
             health := if 3 ≤ satSucc 3 l.isolation then .isolated else l.health }

/-- A mark with this number is irregular: after the first mark it is not the count plus 1, or the compute timer still
runs (R28, R29). -/
def Marker.irregular (m : Marker) (carried : Half) : Bool :=
  (!m.firstMark && carried != m.count + 1) || m.computeTimer.isSome

/-- MARK IRREGULAR is checked against the count and the compute timer as they stood before the mark (R26 step 1). -/
def State.checkMark (s : State) (carried : Half) : State :=
  if s.marker.irregular carried then s.raise .markIrregular carried.toNat else s

/-- The count is set, the first-mark flag cleared, both timers started afresh, and a pending MARK withdrawn (R26 steps 2
to 5). -/
def State.setMark (s : State) (carried : Half) : State :=
  { s with
    marker := { s.marker with count := carried, firstMark := false, periodTimer := some s.periodLength,
                              computeTimer := some s.computeLength }
    outbound := s.outbound.withdraw .mark }

/-- A WHEEL leader's or lone station's differential next becomes its differential in effect (R106). -/
def State.handoff (s : State) : State := if s.role = some .wheel then { s with arb := arbMark s.arb } else s

/-- A mark is taken, in the states that take marks: line health, the period marker, the output stage, the front end, the
peer view, station control's window, the wheel role, and the REPORT last (R26, R172). -/
def State.takeMark (s : State) (origin : MarkOrigin) (carried : Half) : State :=
  if s.control.station.working then
    let heard := { s with line := s.line.atMark origin }
    ((((((heard.checkMark carried).setMark carried).applyAtMark).closePeriod s.marker.firstMark).ageRows).windowMark
      |>.handoff).offerReport
  else s

end Sys2Proof.Machine
end

