-- ==== Sys2Proof/Machine/ComputePoint.lean ====
section
/-! DEFINITION. The compute point (R31): the front end, the role computation of the station's role, compute completion,
the duty counters. -/

namespace Sys2Proof.Machine

/-- The demand content held in row 0, of whatever state, or none while it is NEVER (R50). -/
def State.demandHeld (s : State) : Option DemandContent := s.row0.content?

/-- A numeric field of the demand held; a NEVER row 0 has none, and no rule reads one then: the mode in force is STOP
(R166), under which no role reads a figure of row 0 (log 17). -/
def State.demandField (s : State) (f : DemandContent → Int) : Int := (s.demandHeld.map f).getD 0

/-- The return state code of the RETURN row: the usable RETURN row with the lowest number (R71). -/
def State.returnRowState (s : State) : Option Byte :=
  match (s.usableOf .ret).head? with
  | none => none
  | some p =>
    match p.2.part with
    | .ret part => some part.state
    | _ => none

/-- What the wheel loop reads at this compute. -/
def State.wheelInput (s : State) : WheelInput :=
  { params := s.control.params, mode := s.modeInForce, baseSpeed := s.demandField DemandContent.baseSpeed
    demanded := s.demandHeld.map DemandContent.direction, returnState := s.returnRowState
    pairSpeed := s.front.pairSpeed, pressure := (s.input 0).value, pressureValid := (s.input 0).valid
    inEffect := s.arb.inEffect, side := s.control.straps.side, now := s.marker.count }

/-- What arbitration reads at this compute. -/
def State.arbInput (s : State) : ArbInput :=
  { params := s.control.params, mode := s.modeInForce, number := s.number.toNat, side := s.control.straps.side
    wheels := s.usableOf .wheel, steers := s.usableOf .steer, targetX := s.demandField DemandContent.targetX
    pressure := (s.input 0).value, pressureValid := (s.input 0).valid }

/-- The peer row of a STEER station: the usable STEER row of the opposite face, lowest number (R114). -/
def State.steerPeer (s : State) : Option PeerContent :=
  (lowestOf (otherSide s.control.straps.side) (s.usableOf .steer)).map Prod.snd

/-- What the steering role reads at this compute. -/
def State.steerInput (s : State) : SteerInput :=
  { params := s.control.params, mode := s.modeInForce, active := s.control.station == .active
    side := s.control.straps.side, tiltX := (s.input 0).value, tiltY := (s.input 1).value
    tiltValid := (s.input 0).valid && (s.input 1).valid, posL := (s.input 2).value, posR := (s.input 3).value
    posLValid := (s.input 2).valid, posRValid := (s.input 3).valid, appliedL := s.ch0.applied
    appliedR := s.ch1.applied, peer := s.steerPeer, targetX := s.demandField DemandContent.targetX
    targetY := s.demandField DemandContent.targetY, depth := s.demandField DemandContent.depth, now := s.marker.count }

/-- What the return role reads at this compute. -/
def State.returnInput (s : State) : ReturnInput :=
  { params := s.control.params, mode := s.modeInForce, flow := (s.input 0).value, flowValid := (s.input 0).valid
    density := (s.input 1).value, densityValid := (s.input 1).valid, suction := (s.input 2).value
    suctionValid := (s.input 2).valid, rate := s.demandField DemandContent.rate
    densityLimit := s.demandField DemandContent.densityLimit
    freshDensity := s.demandField DemandContent.freshDensity }

/-- The compute of a WHEEL station's role: the loop, then arbitration, which reads the values of this compute and does
not change the share used in it (R70; the order of their raises: log 14). -/
def State.computeWheel (s : State) : State :=
  let w := wheelCompute s.wheelInput s.wheel
  let a := arbCompute s.arbInput s.arb
  { s with wheel := w.1, arb := a.1 }.stage0 w.1.drive |>.raiseAll (w.2 ++ a.2)

/-- The compute of a STEER station's role (R113). -/
def State.computeSteer (s : State) : State :=
  let r := steerCompute s.steerInput s.steer
  ({ s with steer := r.1 }.stage0 r.1.flapL).stage1 r.1.flapR |>.raiseAll r.2

/-- The compute of a RETURN station's role (R130). -/
def State.computeReturn (s : State) : State :=
  let r := returnCompute s.returnInput s.ret
  { s with ret := r.1 }.stage0 r.1.u |>.raiseAll r.2

/-- The role computation of the station's role (R31). -/
def State.roleCompute (s : State) : State :=
  match s.role with
  | some .wheel => s.computeWheel
  | some .steer => s.computeSteer
  | some .ret => s.computeReturn
  | none => s

/-- The compute timer stops (R30). -/
def State.stopCompute (s : State) : State := { s with marker := { s.marker with computeTimer := none } }

/-- The compute's sample period number is the period count (R31). -/
def State.noteSample (s : State) : State := { s with marker := { s.marker with sample := some s.marker.count } }

/-- One whole compute: front end (R67), role computation, compute completion (R34), duty counters (R150). -/
def State.runCompute (s : State) : State :=
  (s.noteSample.frontCompute.roleCompute).applyAtCompute.dutyCompute

/-- The compute timer runs out: the compute runs in READY and ACTIVE, and in SETUP and CONFIG FAULT none does (R31). -/
def State.computePoint (s : State) : State :=
  if s.control.station.computes then s.stopCompute.runCompute else s.stopCompute

end Sys2Proof.Machine
end

