-- ==== Sys2Proof/Machine/LineInterface.lean ====
section
/-! DEFINITION. The line interface of spec/01: attempts and their outcomes (R6 to R9), receiving and delivery (R16 to
R18), clash (R19) and line health (R20). -/

namespace Sys2Proof.Machine

/-! ### Attempts -/

/-- The station state permits sending; CLASH does for the one notice its list can hold (R6, R19). -/
def StationState.sends (st : StationState) : Bool := st.working || st == .clash

/-- The head of the list enters the sending slot, with header byte 3 taken afresh (R4, R6). -/
def State.loadSlot (s : State) : State :=
  match s.outbound.entries with
  | [] => s
  | e :: rest =>
    { s with
      outbound := { s.outbound with entries := rest }
      line := { s.line with slot := some ⟨e, s.marker.count.extractLsb' 0 8⟩ } }

/-- The line is free and no other start bit has been seen: an attempt starts where the list, the slot and the station
state allow it (R6). A station still reading a telegram does not find the line free (log 4). -/
def State.tryStart (s : State) : State :=
  if s.line.slot = none ∧ s.line.receiver = .between ∧ s.control.station.sends then s.loadSlot else s

/-- The slot empties, and the receiver goes to `r`. -/
def State.emptySlot (s : State) (r : Receiver) : State := { s with line := { s.line with slot := none, receiver := r } }

/-- The attempt ends OUTBID: the entry returns, and the winner's telegram is received (R7, R14). -/
def State.outbid (s : State) : State :=
  match s.line.slot with
  | none => s
  | some sl => { s.emptySlot .inTelegram with outbound := s.outbound.giveBack sl.entry }

/-- An entry that has FAILED is returned, or discarded at its third failure; a discarded COUNT HALT freezes the own
counters (R8, R153). -/
def State.failEntry (s : State) (e : Entry) : State :=
  if 3 ≤ e.attempts + 1 then
    match e.content with
    | .countHalt _ => s.freezeOwn
    | .mark _ | .report _ | .notice _ _ _ _ _ | .countAnswer _ => s
  else { s with outbound := s.outbound.giveBack { e with attempts := e.attempts + 1 } }

/-- The attempt ends FAILED (R8): a MARK is discarded and a local mark taken (R27), another entry as `failEntry`. -/
def State.failed (s : State) : State :=
  match s.line.slot with
  | none => s
  | some sl =>
    match sl.entry.content with
    | .mark _ => (s.emptySlot .between).takeMark .own (s.marker.count + 1)
    | .countHalt _ | .report _ | .notice _ _ _ _ _ | .countAnswer _ => (s.emptySlot .between).failEntry sl.entry

/-- The attempt ends SENT (R9): the own MARK is taken as a mark, the own COUNT HALT freezes the own counters. -/
def State.sent (s : State) : State :=
  match s.line.slot with
  | none => s
  | some sl =>
    match sl.entry.content with
    | .mark n => (s.emptySlot .between).takeMark .own n
    | .countHalt _ => (s.emptySlot .between).freezeOwn
    | .report _ | .notice _ _ _ _ _ | .countAnswer _ => s.emptySlot .between

/-! ### Receiving -/

/-- The station receives: it is out of reset and past STARTING, and it is not sending (R16, R18). -/
def State.receives (s : State) : Bool :=
  !s.inReset && s.control.station != .starting && s.line.slot.isNone

/-- A telegram has ended: the receiver waits for the line to be free again (R16). -/
def State.endTelegram (s : State) : State := { s with line := { s.line with receiver := .between } }

/-- A received telegram that is bad or malformed: discarded without any other effect (R5, R16). -/
def State.discard (s : State) : State := if s.receives then s.endTelegram else s

/-- A valid telegram heard from another station: the isolation count is 0 and the line CONNECTED (R20). In CLASH too,
where R20's sentences disagree (DESIGN CHOICE, log 30). -/
def State.heardFrom (s : State) (source : Nibble) : State :=
  if source = s.number then s else { s with line := { s.line with isolation := 0, health := .connected } }

/-- The content of the clash notice (R19): urgent, the own number in the low byte, SAME NUMBER (0) in the high byte. -/
def State.clashNotice (s : State) : Content :=
  .notice true .stationClash 1 (s.number.setWidth 16) s.marker.count

/-- Entry to CLASH (R19, R23, R36): the flag latched, the list left with the clash notice alone, both timers stopped,
a WHEEL station's channel 0 forced to 0. -/
def State.enterClash (s : State) : State :=
  let forced := if s.role = some .wheel then s.zero0 else s
  { forced with
    flags := s.flags ||| EventCode.bit .stationClash
    outbound := { entries := [⟨s.clashNotice, s.outbound.nextStamp, 0⟩], nextStamp := s.outbound.nextStamp + 1 }
    control := { s.control with station := .clash }
    marker := { s.marker with periodTimer := none, computeTimer := none } }

/-- An own-number telegram heard in CLASH: it latches the flag and coalesces into the clash notice while that is pending
(R19, R169, R171). -/
def State.clashAgain (s : State) : State :=
  { s with
    flags := s.flags ||| EventCode.bit .stationClash
    outbound := match findKey (.notice .stationClash) s.outbound.entries with
      | some _ => s.outbound.offer s.clashNotice
      | none => s.outbound }

/-- A valid telegram whose source is the station's own number (R19). -/
def State.ownNumberHeard (s : State) : State :=
  if s.control.station.working then s.enterClash
  else if s.control.station = .clash then s.clashAgain
  else s

/-- The own number is watched for: in every state but STRAP FAULT and STARTING (R19). -/
def StationState.watches (st : StationState) : Bool := st.working || st == .clash

/-- A source proper to the kinds that stations send: 1 to 14 (R17). -/
def fromStation (source : Nibble) : Bool := source != 0 && source != 15

/-- The source proper to the kinds that the cabin sends: 0 (R17). -/
def fromCabin (source : Nibble) : Bool := source == 0

/-- A target that names the station or all (R17). -/
def State.targeted (s : State) (target : Nibble) : Bool := target == s.number || target == 15

/-- A valid telegram is received: an own-number telegram is a clash (R19); any other counts as heard (R20), and it acts
where it is delivered from a proper source (R17) and its kind is acted on in the present state (R18). -/
def State.receive (s : State) (source : Nibble) (delivered : Bool) (act : State → State) : State :=
  if !s.receives then s
  else if s.control.station.watches ∧ source = s.number then s.endTelegram.ownNumberHeard
  else if delivered then act (s.endTelegram.heardFrom source) else s.endTelegram.heardFrom source

/-- A station's telegram reaches its block: source, target and station state all allow it (R17, R18). -/
def State.deliversStation (s : State) (source target : Nibble) : Bool :=
  fromStation source && s.targeted target && s.control.station.working

/-- A cabin telegram other than SETUP, SETUP CLOSE and RESTART reaches its block (R17, R18). -/
def State.deliversCabin (s : State) (source target : Nibble) : Bool :=
  fromCabin source && s.targeted target && s.control.station.working

/-- SETUP and SETUP CLOSE reach station control: in SETUP and CONFIG FAULT (R18). -/
def State.deliversSetup (s : State) (source target : Nibble) : Bool :=
  fromCabin source && s.targeted target && s.control.station.configures

/-- RESTART reaches station control: in every state but STARTING, and in STRAP FAULT with target 15 alone (R18,
R167). -/
def State.deliversRestart (s : State) (source target : Nibble) : Bool :=
  fromCabin source &&
    match s.control.station with
    | .starting => false
    | .strapFault => target == 15
    | .setup | .configFault | .ready | .active | .clash => s.targeted target

end Sys2Proof.Machine
end

