-- ==== Sys2Proof/Machine/Resets.lean ====
section
/-! DEFINITION. The commands POWER_ON_RESET, RESET_RELEASE and RESTART (R167, R168). -/

namespace Sys2Proof.Machine

/-- What a command of this block answers. Every command answers a next state: no rule stops the part. -/
abbrev Result := Host.Outcome State Fault Refusal

/-- An event of the running part; while power-on reset holds the part nothing runs and no terminal samples (R168). -/
def State.whileRunning (s : State) (act : State → State) : State := if s.inReset then s else act s

/-- POWER_ON_RESET (R168): the cause holds from now on, and every state stands at its power-on value. -/
def execPowerOnReset (cause : ResetCause) (s : State) : Result := .next (s.powerOn (s.hold.begin cause))

/-- RESET_RELEASE (R168): the cause ends; when no other cause holds reset, every state takes its power-on value and
the straps are read (R159). Outside a reset it changes nothing (log 1). -/
def execResetRelease (cause : ReleaseCause) (straps : Straps) (s : State) : Result :=
  let hold := s.hold.finish cause
  .next (if !s.inReset then s
    else if hold.supply || hold.pin then { s with hold := hold }
    else (s.powerOn hold).readStraps straps)

/-- RESTART (R167). -/
def execRestart (source target : Nibble) (straps : Straps) (s : State) : Result :=
  .next (s.receive source (s.deliversRestart source target) fun t => t.restart straps)

end Sys2Proof.Machine
end

