-- ==== Sys2Proof/Machine/Attempts.lean ====
section
/-! DEFINITION. The commands of the station's own attempts: ATTEMPT_START, ATTEMPT_OUTBID, ATTEMPT_FAILED and ATTEMPT_SENT
(R6 to R9). An outcome without an entry in the slot changes nothing (log 1). -/

namespace Sys2Proof.Machine

/-- ATTEMPT_START (R6). -/
def execAttemptStart (s : State) : Result := .next (s.whileRunning State.tryStart)

/-- ATTEMPT_OUTBID (R7). -/
def execAttemptOutbid (s : State) : Result := .next (s.whileRunning State.outbid)

/-- ATTEMPT_FAILED (R8). -/
def execAttemptFailed (s : State) : Result := .next (s.whileRunning State.failed)

/-- ATTEMPT_SENT (R9). -/
def execAttemptSent (s : State) : Result := .next (s.whileRunning State.sent)

end Sys2Proof.Machine
end

