-- ==== Sys2Proof/Machine/CabinTelegrams.lean ====
section
/-! DEFINITION. The commands of telegrams that the cabin sends, but for RESTART: COUNT_THAW, DEMAND, FLAG_CLEAR,
COUNT_LOAD, COUNT_QUERY, SETUP and SETUP_CLOSE (R155 to R157, R161, R162, R164, R173). -/

namespace Sys2Proof.Machine

/-- COUNT_THAW (R155). -/
def execCountThaw (source target : Nibble) (s : State) : Result :=
  .next (s.receive source (s.deliversCabin source target) State.takeThaw)

/-- DEMAND (R164). -/
def execDemand (source target : Nibble) (fields : DemandFields) (s : State) : Result :=
  .next (s.receive source (s.deliversCabin source target) fun t => t.takeDemand fields)

/-- FLAG_CLEAR (R173). -/
def execFlagClear (source target : Nibble) (codes : Half) (s : State) : Result :=
  .next (s.receive source (s.deliversCabin source target) fun t => t.clearFlags codes)

/-- COUNT_LOAD (R156). -/
def execCountLoad (source target : Nibble) (index : Byte) (value : Quad) (s : State) : Result :=
  .next (s.receive source (s.deliversCabin source target) fun t => t.takeLoad index value)

/-- COUNT_QUERY (R157). -/
def execCountQuery (source target : Nibble) (index : Byte) (s : State) : Result :=
  .next (s.receive source (s.deliversCabin source target) fun t => t.takeQuery index)

/-- SETUP (R161). -/
def execSetup (source target : Nibble) (param : Byte) (value : Half) (s : State) : Result :=
  .next (s.receive source (s.deliversSetup source target) fun t => t.setupParam param.toNat value)

/-- SETUP_CLOSE (R162). -/
def execSetupClose (source target : Nibble) (s : State) : Result :=
  .next (s.receive source (s.deliversSetup source target) State.validate)

end Sys2Proof.Machine
end

