-- ==== Sys2Proof/Machine/FrameTelegrams.lean ====
section
/-! DEFINITION. The commands of telegrams that stations send to one another: MARK, COUNT_HALT and REPORT (R26, R43,
R154). -/

namespace Sys2Proof.Machine

/-- MARK (R26). -/
def execMark (source target : Nibble) (period : Half) (s : State) : Result :=
  .next (s.receive source (s.deliversStation source target) fun t => t.takeMark .other period)

/-- COUNT_HALT (R154); the index in the payload is not recorded. -/
def execCountHalt (source target : Nibble) (_index : Byte) (s : State) : Result :=
  .next (s.receive source (s.deliversStation source target) fun t => t.takeHalt source)

/-- REPORT (R43, R107). A REPORT whose part does not fit its state and role is malformed and is discarded (R5). -/
def execReport (source target : Nibble) (content : Report) (s : State) : Result :=
  .next (if content.wellFormed then
      s.receive source (s.deliversStation source target) fun t => t.takeReport source.toNat content
    else s.discard)

end Sys2Proof.Machine
end

