-- ==== Sys2Proof/Machine/Telegrams.lean ====
section
/-! DEFINITION. The commands of received telegrams that no block takes: BAD_TELEGRAM, MALFORMED_TELEGRAM, TELEGRAM_HEARD
and CLASH_ENTRY (R5, R16, R17, R19). -/

namespace Sys2Proof.Machine

/-- BAD_TELEGRAM (R16). -/
def execBadTelegram (s : State) : Result := .next s.discard

/-- MALFORMED_TELEGRAM (R5). -/
def execMalformedTelegram (s : State) : Result := .next s.discard

/-- TELEGRAM_HEARD (R17): line health and clash detection alone. -/
def execTelegramHeard (source : Nibble) (s : State) : Result := .next (s.receive source false id)

/-- CLASH_ENTRY (R19). -/
def execClashEntry (s : State) : Result := .next (if s.receives then s.endTelegram.ownNumberHeard else s)

end Sys2Proof.Machine
end

