-- ==== Sys2Proof/Machine/Terminals.lean ====
section
/-! DEFINITION. The commands FILTER_SAMPLE and ANALOG_CONVERSION (R55, R56, R63). -/

namespace Sys2Proof.Machine

/-- The filter of a pulse input takes a sample, under the edge select P8 or P9 (R55, R56). -/
def State.samplePulse (s : State) (input : PulseInput) (level : Level) : State :=
  match input with
  | .first => { s with front := { s.front with pulse1 := s.front.pulse1.sample (s.param 8) level } }
  | .second => { s with front := { s.front with pulse2 := s.front.pulse2.sample (s.param 9) level } }

/-- A conversion replaces an input's latest raw code (R63). -/
def State.convert (s : State) (input : Fin 4) (raw : BitVec 12) : State :=
  let converted := { s.front.analog[input] with raw := raw }
  { s with front := { s.front with analog := s.front.analog.set input.val converted input.isLt } }

/-- FILTER_SAMPLE (R55). -/
def execFilterSample (input : PulseInput) (level : Level) (s : State) : Result :=
  .next (s.whileRunning fun t => t.samplePulse input level)

/-- ANALOG_CONVERSION (R63). -/
def execAnalogConversion (input : Fin 4) (raw : BitVec 12) (s : State) : Result :=
  .next (s.whileRunning fun t => t.convert input raw)

end Sys2Proof.Machine
end

