-- ==== Sys2Proof/Machine/Timers.lean ====
section
/-! DEFINITION. The commands PERIOD_TIMER_EXPIRY and COMPUTE_POINT (R24, R31). A timer that is not running does not run
out: the command then changes nothing (log 1). -/

namespace Sys2Proof.Machine

/-- PERIOD_TIMER_EXPIRY (R24). -/
def execPeriodTimerExpiry (s : State) : Result :=
  .next (s.whileRunning fun t => if t.marker.periodTimer.isSome then t.timerExpired else t)

/-- COMPUTE_POINT (R31). -/
def execComputePoint (s : State) : Result :=
  .next (s.whileRunning fun t => if t.marker.computeTimer.isSome then t.computePoint else t)

end Sys2Proof.Machine
end

