-- ==== Sys2Proof/Machine/Dispatch.lean ====
section
/-! DEFINITION. The meaning of each command, one arm for each row of spec/opcode_table.json. -/

namespace Sys2Proof.Machine

/-- The effect of a command on everything but the queue. -/
def exec (i : Instr) (s : State) : Host.Outcome State Fault Refusal :=
  match i with
  | .powerOnReset cause => Sys2Proof.Machine.execPowerOnReset cause s
  | .resetRelease cause straps => Sys2Proof.Machine.execResetRelease cause straps s
  | .filterSample input level => Sys2Proof.Machine.execFilterSample input level s
  | .analogConversion input raw => Sys2Proof.Machine.execAnalogConversion input raw s
  | .periodTimerExpiry => Sys2Proof.Machine.execPeriodTimerExpiry s
  | .attemptStart => Sys2Proof.Machine.execAttemptStart s
  | .attemptOutbid => Sys2Proof.Machine.execAttemptOutbid s
  | .attemptFailed => Sys2Proof.Machine.execAttemptFailed s
  | .attemptSent => Sys2Proof.Machine.execAttemptSent s
  | .badTelegram => Sys2Proof.Machine.execBadTelegram s
  | .malformedTelegram => Sys2Proof.Machine.execMalformedTelegram s
  | .telegramHeard source => Sys2Proof.Machine.execTelegramHeard source s
  | .clashEntry => Sys2Proof.Machine.execClashEntry s
  | .mark source target period => Sys2Proof.Machine.execMark source target period s
  | .computePoint => Sys2Proof.Machine.execComputePoint s
  | .countHalt source target index => Sys2Proof.Machine.execCountHalt source target index s
  | .countThaw source target => Sys2Proof.Machine.execCountThaw source target s
  | .demand source target fields => Sys2Proof.Machine.execDemand source target fields s
  | .report source target content => Sys2Proof.Machine.execReport source target content s
  | .flagClear source target codes => Sys2Proof.Machine.execFlagClear source target codes s
  | .countLoad source target index value => Sys2Proof.Machine.execCountLoad source target index value s
  | .countQuery source target index => Sys2Proof.Machine.execCountQuery source target index s
  | .setup source target param value => Sys2Proof.Machine.execSetup source target param value s
  | .setupClose source target => Sys2Proof.Machine.execSetupClose source target s
  | .restart source target straps => Sys2Proof.Machine.execRestart source target straps s

end Sys2Proof.Machine
end

