-- ==== Sys2Proof/Machine/Wire.lean ====
section
/-! DEFINITION. The frame line below the commands: line levels (R1), line time (R2), check (R3), composed telegrams (R4
and the layouts of spec/01 section 1.2), reading a telegram into a command (R5, R16), and the outcome an attempt's
read-back shows (R7 to R9). A level is `true` when recessive (a one) and `false` when dominant (a zero). -/

namespace Sys2Proof.Machine

/-! ### Check and header -/

/-- One bit into the check: the polynomial x^16 + x^12 + x^5 + 1 (R3). -/
def checkBit (r : Half) (b : Bool) : Half := if r.msb != b then (r <<< 1) ^^^ 0x1021#16 else r <<< 1

/-- One byte into the check, most significant bit first (R3). -/
def checkByte (r : Half) (b : Byte) : Half :=
  ([7, 6, 5, 4, 3, 2, 1, 0] : List Nat).foldl (fun r i => checkBit r (b.getLsbD i)) r

/-- The check of header and payload: the remainder starts from all ones (R3). -/
def check (bytes : List Byte) : Half := bytes.foldl checkByte 0xFFFF#16

/-- A whole telegram: header, payload and check (R2, R3, R4). -/
def telegram (kind source target : Nibble) (periodByte : Byte) (payload : List Byte) : List Byte :=
  let body := [kind ++ source, target ++ 0#4, BitVec.ofNat 8 payload.length, periodByte] ++ payload
  body ++ halfBytes (check body)

/-- The time in µs for which a telegram with `n` payload bytes occupies the line (R2). -/
def lineTime (n : Nat) : Nat := (6 + n) * 10 * Config.bitTime

/-- The time in µs for which it holds the line, with the idle that must follow (R2). -/
def lineHold (n : Nat) : Nat := lineTime n + Config.freeIdle

/-! ### Composing -/

/-- A flag as a byte, 0 or 1. -/
def flagByte (b : Bool) : Byte := if b then 1 else 0

/-- The station state codes of a REPORT (spec/01 section 1.2). -/
def reportedStateCode : ReportedState → Byte
  | .setup => 2 | .configFault => 3 | .ready => 4 | .active => 5

/-- The role code of the packed byte. -/
def roleCode : Role → BitVec 2
  | .wheel => 0 | .steer => 1 | .ret => 2

/-- The packed byte: role, side, line health, counters frozen, leader, and two zero bits. -/
def packedByte (r : Report) : Byte :=
  roleCode r.role ++ BitVec.ofBool (r.side == .one) ++ BitVec.ofBool r.isolated ++ BitVec.ofBool r.frozen ++
    BitVec.ofBool r.leader ++ 0#2

/-- The bytes of a role part (spec/01 section 1.2). -/
def rolePartBytes : RolePart → List Byte
  | .none => []
  | .configFault c => [c]
  | .wheel p =>
    halfBytes p.speed1 ++ halfBytes p.speed2 ++ halfBytes p.pairSpeed ++ halfBytes p.pressure ++ [p.loop, p.mode] ++
      halfBytes p.inEffect ++ halfBytes p.drive
  | .steer p =>
    halfBytes p.tiltX ++ halfBytes p.tiltY ++ halfBytes p.offX ++ halfBytes p.offY ++ halfBytes p.flapL ++
      halfBytes p.flapR ++ halfBytes p.posL ++ halfBytes p.posR ++ [p.fusion]
  | .ret p =>
    halfBytes p.flow ++ halfBytes p.density ++ halfBytes p.suction ++ halfBytes p.output ++ halfBytes p.target ++
      halfBytes p.trim ++ [p.state, p.cavitating]

/-- The payload of a REPORT. -/
def reportBytes (r : Report) : List Byte :=
  [reportedStateCode r.station, r.mode, packedByte r] ++ halfBytes r.flags ++ halfBytes r.sample ++ rolePartBytes r.part

/-- The payload of a DEMAND. -/
def demandBytes (f : DemandFields) : List Byte :=
  [f.mode, f.direction] ++ halfBytes f.baseSpeed ++ halfBytes f.targetX ++ halfBytes f.targetY ++ halfBytes f.depth ++
    halfBytes f.rate ++ halfBytes f.densityLimit ++ halfBytes f.freshDensity ++ [f.offsetReset]

/-- The payload of an outbound entry (spec/01 section 1.2). -/
def Content.payload : Content → List Byte
  | .mark n => halfBytes n
  | .countHalt i => [i]
  | .report r => reportBytes r
  | .notice _ code repeats detail first =>
    [BitVec.ofNat 8 code.toNat, BitVec.ofNat 8 repeats] ++ halfBytes detail ++ halfBytes first
  | .countAnswer a =>
    [a.index, a.status] ++ quadBytes a.value ++ [flagByte a.overflow, flagByte a.frozen, a.halting.setWidth 8]

/-- The target an entry is sent to: all stations, or the cabin for notices and answers (R4). -/
def Content.target : Content → Nibble
  | .mark _ | .countHalt _ | .report _ => 15
  | .notice _ _ _ _ _ | .countAnswer _ => 0

/-- The telegram that a station of number `own` sends of an entry, with header byte 3 as taken (R4). -/
def Content.telegram (c : Content) (own : Nibble) (periodByte : Byte) : List Byte :=
  Machine.telegram (BitVec.ofNat 4 c.kind) own c.target periodByte c.payload

/-- The telegram under attempt, none while the slot is empty (R4, R6). -/
def State.sending (s : State) : Option (List Byte) :=
  s.line.slot.map fun sl => sl.entry.content.telegram s.number sl.periodByte

/-- The telegram of a command that is a telegram: kind, source, target and payload. The kinds a TL640 takes from the
line are written here, so that what the cabin sends can be written out too. -/
def onLine : Instr → Option (Nibble × Nibble × Nibble × List Byte)
  | .mark src tgt n => some (0, src, tgt, halfBytes n)
  | .countHalt src tgt i => some (1, src, tgt, [i])
  | .countThaw src tgt => some (2, src, tgt, [])
  | .demand src tgt f => some (3, src, tgt, demandBytes f)
  | .report src tgt r => some (4, src, tgt, reportBytes r)
  | .flagClear src tgt codes => some (7, src, tgt, halfBytes codes)
  | .countLoad src tgt i v => some (8, src, tgt, i :: quadBytes v)
  | .countQuery src tgt i => some (9, src, tgt, [i])
  | .setup src tgt p v => some (11, src, tgt, p :: halfBytes v)
  | .setupClose src tgt => some (12, src, tgt, [])
  | .restart src tgt _ => some (13, src, tgt, [])
  | .powerOnReset _ | .resetRelease _ _ | .filterSample _ _ | .analogConversion _ _ | .periodTimerExpiry
  | .attemptStart | .attemptOutbid | .attemptFailed | .attemptSent | .badTelegram | .malformedTelegram
  | .telegramHeard _ | .clashEntry | .computePoint => none

/-! ### Reading -/

/-- The role of a packed byte's code; code 3 is not well-formed (R5). -/
def readRole (packed : Byte) : Option Role := roleOfCode (packed.extractLsb' 6 2)

/-- The station state of a REPORT's code; codes 0, 1, 6 and others are not well-formed (R5). -/
def readReportedState (c : Byte) : Option ReportedState :=
  if c = 2 then some .setup else if c = 3 then some .configFault else if c = 4 then some .ready
  else if c = 5 then some .active else none

/-- The WHEEL role part of fourteen bytes. -/
def readWheelPart : List Byte → Option RolePart
  | [a, b, c, d, e, f, g, h, l, m, i, j, k, n] =>
    some (.wheel ⟨ofBytes2 a b, ofBytes2 c d, ofBytes2 e f, ofBytes2 g h, l, m, ofBytes2 i j, ofBytes2 k n⟩)
  | _ => none

/-- The STEER role part of seventeen bytes. -/
def readSteerPart : List Byte → Option RolePart
  | [a, b, c, d, e, f, g, h, i, j, k, l, m, n, o, p, q] =>
    some (.steer ⟨ofBytes2 a b, ofBytes2 c d, ofBytes2 e f, ofBytes2 g h, ofBytes2 i j, ofBytes2 k l, ofBytes2 m n,
      ofBytes2 o p, q⟩)
  | _ => none

/-- The RETURN role part of fourteen bytes. -/
def readReturnPart : List Byte → Option RolePart
  | [a, b, c, d, e, f, g, h, i, j, k, l, m, n] =>
    some (.ret ⟨ofBytes2 a b, ofBytes2 c d, ofBytes2 e f, ofBytes2 g h, ofBytes2 i j, ofBytes2 k l, m, n⟩)
  | _ => none

/-- The role part that a station state and role call for, read from the bytes after the common part; none where the
length does not match (R5). -/
def readRolePart (st : ReportedState) (role : Role) (rest : List Byte) : Option RolePart :=
  match st, role, rest with
  | .setup, _, [] => some .none
  | .configFault, _, [c] => some (.configFault c)
  | .ready, .wheel, _ => readWheelPart rest
  | .active, .wheel, _ => readWheelPart rest
  | .ready, .steer, _ => readSteerPart rest
  | .active, .steer, _ => readSteerPart rest
  | .ready, .ret, _ => readReturnPart rest
  | .active, .ret, _ => readReturnPart rest
  | _, _, _ => none

/-- The REPORT of a payload, none where it is malformed (R5). The two low bits of the packed byte are not read
(log 19). -/
def readReport : List Byte → Option Report
  | st :: mode :: packed :: f1 :: f2 :: s1 :: s2 :: rest =>
    match readReportedState st, readRole packed with
    | some station, some role =>
      (readRolePart station role rest).map fun part =>
        { station := station, mode := mode, role := role
          side := if packed.getLsbD 5 then .one else .zero
          isolated := packed.getLsbD 4, frozen := packed.getLsbD 3, leader := packed.getLsbD 2
          flags := ofBytes2 f1 f2, sample := ofBytes2 s1 s2, part := part }
    | _, _ => none
  | _ => none

/-- The DEMAND of a payload of seventeen bytes. -/
def readDemand : List Byte → Option DemandFields
  | [m, d, a, b, c, e, f, g, h, i, j, k, l, n, o, p, r] =>
    some ⟨m, d, ofBytes2 a b, ofBytes2 c e, ofBytes2 f g, ofBytes2 h i, ofBytes2 j k, ofBytes2 l n, ofBytes2 o p, r⟩
  | _ => none

/-- The command of a payload by kind, none where the payload's length does not match (R5). `straps` are the pins as
they stand when a RESTART arrives. NOTICE and COUNT ANSWER are handed to no block (R17). -/
def readPayload (straps : Straps) (kind source target : Nibble) (payload : List Byte) : Option Instr :=
  match kind.toNat, payload with
  | 0, [a, b] => some (.mark source target (ofBytes2 a b))
  | 1, [i] => some (.countHalt source target i)
  | 2, [] => some (.countThaw source target)
  | 3, l => (readDemand l).map (.demand source target)
  | 4, l => (readReport l).map (.report source target)
  | 5, [_, _, _, _, _, _] => some (.telegramHeard source)
  | 6, [_, _, _, _, _, _] => some (.telegramHeard source)
  | 7, [a, b] => some (.flagClear source target (ofBytes2 a b))
  | 8, [i, a, b, c, d] => some (.countLoad source target i (ofBytes4 a b c d))
  | 9, [i] => some (.countQuery source target i)
  | 10, [_, _, _, _, _, _, _, _, _] => some (.telegramHeard source)
  | 11, [p, a, b] => some (.setup source target p (ofBytes2 a b))
  | 12, [] => some (.setupClose source target)
  | 13, [] => some (.restart source target straps)
  | _, _ => none

/-- The command that the bytes of a telegram are to a receiver (R5, R16): MALFORMED_TELEGRAM for a length above 24 at once
or for a length that does not match; BAD_TELEGRAM for a telegram cut short, a bad check or an unassigned kind. The receiver
reads the payload bytes that byte 2 names and two check bytes, and what follows them is none of this telegram (log 31). The
low four bits of byte 1 and all of byte 3 are ignored (R4). -/
def readTelegram (straps : Straps) : List Byte → Instr
  | b0 :: b1 :: len :: rest =>
    let n := len.toNat
    let kind := b0.extractLsb' 4 4
    if 24 < n then .malformedTelegram
    else if (rest.drop (1 + n)).take 2 = halfBytes (check ([b0, b1, len] ++ rest.take (1 + n))) ∧ kind.toNat < 14 then
      (readPayload straps kind (b0.extractLsb' 0 4) (b1.extractLsb' 4 4) ((rest.drop 1).take n)).getD .malformedTelegram
    else .badTelegram
  | _ => .badTelegram

/-! ### Levels -/

/-- The ten levels of a byte: start bit dominant, eight data bits most significant first, stop bit recessive (R1). -/
def byteLevels (b : Byte) : List Bool :=
  [false, b.getLsbD 7, b.getLsbD 6, b.getLsbD 5, b.getLsbD 4, b.getLsbD 3, b.getLsbD 2, b.getLsbD 1, b.getLsbD 0, true]

/-- The levels of a telegram, its bytes without gaps (R1). -/
def lineLevels (bytes : List Byte) : List Bool := bytes.flatMap byteLevels

/-- A byte of eight levels, most significant first. -/
def byteOfLevels (a b c d e f g h : Bool) : Byte :=
  BitVec.ofBool a ++ BitVec.ofBool b ++ BitVec.ofBool c ++ BitVec.ofBool d ++ BitVec.ofBool e ++ BitVec.ofBool f ++
    BitVec.ofBool g ++ BitVec.ofBool h

/-- The bytes that levels spell, up to the first framing error: a recessive start bit, a dominant stop bit, or a byte cut
short (R1). -/
def readLevels : List Bool → List Byte
  | false :: a :: b :: c :: d :: e :: f :: g :: h :: true :: rest => byteOfLevels a b c d e f g h :: readLevels rest
  | _ => []

/-- The command that the line's levels from a telegram's start bit on are to a receiver: a framing error before the last
check byte leaves the telegram short, and so bad (R1, R3, R16). -/
def readLine (straps : Straps) (levels : List Bool) : Instr := readTelegram straps (readLevels levels)

/-- The line carries the dominant level where any sender drives it (spec/01 section 1.1). -/
def wiredLine (a b : List Bool) : List Bool := List.zipWith (fun x y => x && y) a b

/-- The levels a sender drives on a line that carries `read`: its own up to and including its first mismatch, recessive
after that and after its last (R7, R8). -/
def drives : List Bool → List Bool → List Bool
  | _, [] => []
  | [], _ :: rest => true :: drives [] rest
  | sent :: more, read :: rest => sent :: drives (if sent = read then more else []) rest

/-- The outcome that the read-back of an attempt shows, from level number `n` on: OUTBID where a recessive level was
sent and a dominant one read in the data bits of byte 0 (levels 1 to 8), FAILED at any other first mismatch, SENT where
every level reads back as sent (R7, R8, R9). -/
def readBack (n : Nat) : List Bool → List Bool → Instr
  | [], _ => .attemptSent
  | _ :: _, [] => .attemptFailed
  | sent :: more, read :: rest =>
    if sent = read then readBack (n + 1) more rest
    else if sent ∧ 1 ≤ n ∧ n ≤ 8 then .attemptOutbid
    else .attemptFailed

/-- The outcome command of sending a telegram while the line carried `read`. -/
def attemptOutcome (bytes : List Byte) (read : List Bool) : Instr := readBack 0 (lineLevels bytes) read

/-! ### The row of a telegram -/

/-- The telegram command as the row of spec/opcode_table.json that it is in this state: an own-number telegram is
CLASH_ENTRY (R19), one that is not delivered or not acted on is TELEGRAM_HEARD (R17, R18). -/
def State.asRow (s : State) (i : Instr) : Instr :=
  let row (source : Nibble) (delivered : Bool) : Instr :=
    if s.control.station.watches ∧ source = s.number then .clashEntry
    else if delivered then i else .telegramHeard source
  match i with
  | .mark src tgt _ => row src (s.deliversStation src tgt)
  | .countHalt src tgt _ => row src (s.deliversStation src tgt)
  | .report src tgt r => if r.wellFormed then row src (s.deliversStation src tgt) else .malformedTelegram
  | .countThaw src tgt => row src (s.deliversCabin src tgt)
  | .demand src tgt _ => row src (s.deliversCabin src tgt)
  | .flagClear src tgt _ => row src (s.deliversCabin src tgt)
  | .countLoad src tgt _ _ => row src (s.deliversCabin src tgt)
  | .countQuery src tgt _ => row src (s.deliversCabin src tgt)
  | .setup src tgt _ _ => row src (s.deliversSetup src tgt)
  | .setupClose src tgt => row src (s.deliversSetup src tgt)
  | .restart src tgt _ => row src (s.deliversRestart src tgt)
  | .telegramHeard src => if s.control.station.watches ∧ src = s.number then .clashEntry else i
  | .powerOnReset _ | .resetRelease _ _ | .filterSample _ _ | .analogConversion _ _ | .periodTimerExpiry
  | .attemptStart | .attemptOutbid | .attemptFailed | .attemptSent | .badTelegram | .malformedTelegram
  | .clashEntry | .computePoint => i

end Sys2Proof.Machine
end

