-- ==== Sys2Proof/Safety.lean ====
section
/-! DEFINITION. What holds of a station at every moment of a run: the invariants that the statements claim each step
keeps. Each field cites the rule whose words it puts as a property of the state. -/

namespace Sys2Proof.Machine

/-- `v` lies in `lo` to `hi`. -/
def within (lo hi v : Int) : Prop := lo ≤ v ∧ v ≤ hi

/-! ### Outbound list and slot -/

/-- Every entry the station holds: the one in the sending slot and the pending ones. -/
def State.held (s : State) : List Entry := (s.line.slot.map Slot.entry).toList ++ s.outbound.entries

/-- The content of an entry keeps its ranges: a repeat count of 1 to 255 (R10, R11), a counter index of 0 to 3 in a COUNT
HALT (R152). -/
def Content.sound : Content → Prop
  | .notice _ _ repeats _ _ => 1 ≤ repeats ∧ repeats ≤ 255
  | .countHalt index => index.toNat < 4
  | .mark _ | .report _ | .countAnswer _ => True

/-- The outbound list and the slot. -/
structure ListInv (s : State) : Prop where
  /-- The list stands in ascending kind, and within a kind in the order of age stamps (R12). -/
  ordered : s.outbound.entries.Pairwise fun a b => a.before b = true
  /-- At most one pending entry has a given kind and key, the two NOTICE kinds sharing one set of keys (R10). -/
  oneForKey : (s.outbound.entries.map fun e => e.content.key).Nodup
  /-- Age stamps are given in the order in which entries were created (R10). -/
  stamped : ∀ e ∈ s.held, e.stamp < s.outbound.nextStamp
  /-- No two entries have one age stamp (R10). -/
  stampsDiffer : (s.held.map Entry.stamp).Nodup
  /-- An entry at its third failure is discarded, so none stands at 3 (R8). -/
  attempts : ∀ e ∈ s.held, e.attempts < 3
  contents : ∀ e ∈ s.held, e.content.sound

/-! ### Station control and what depends on the station state -/

/-- The state as it would stand with the role strap of `r`: the validation checks name the role (R162). -/
def State.asRole (s : State) (r : Role) : State :=
  { s with control := { s.control with straps := { s.control.straps with role := roleCode r } } }

/-- Station state, settled flag, timers and the states that hang on them. -/
structure StationInv (s : State) : Prop where
  /-- STARTING is the state of a part held in power-on reset, and it is left at once when reset ends (R159, R168). -/
  starting : s.inReset = true ↔ s.control.station = .starting
  /-- A held part stands at its power-on values (R168). -/
  heldAtPowerOn : s.inReset = true → s = { State.reset with pending := s.pending, hold := s.hold }
  /-- Past STARTING and out of STRAP FAULT the straps name a station (R159). -/
  straps : s.control.station.watches = true → strapsValid s.control.straps = true
  /-- READY and ACTIVE are settled stations (R159, R162). -/
  settled : s.control.station.computes = true → s.control.settled = true ∧ s.control.validatedRole = s.role
  /-- SETUP and CONFIG FAULT are not settled (R159, R162). -/
  unsettled : s.control.station.configures = true → s.control.settled = false
  /-- A settled station has a validated role, for which its parameters pass every check (R162). -/
  checked : s.control.settled = true → ∃ r, s.control.validatedRole = some r ∧ (s.asRole r).firstFailing = none
  /-- The setup window closes by itself at 300 marks (R160). -/
  window : s.control.station = .setup → s.control.setupCount < 300
  /-- The period timer runs in SETUP, CONFIG FAULT, READY and ACTIVE, and in no other state (R23, R24). -/
  periodTimer : s.marker.periodTimer.isSome = s.control.station.working
  /-- The compute timer runs in those states alone (R23, R30). -/
  computeTimer : s.marker.computeTimer.isSome = true → s.control.station.working = true
  /-- ACTIVE begins with a DEMAND, which refreshes row 0 (R164). -/
  demandHeld : s.control.station = .active → s.row0 ≠ .never
  /-- The row of the station's own number stays NEVER (R41). -/
  ownRow : s.row s.number.toNat = .never
  /-- STRAP FAULT enters nothing into the list and sends nothing (R6, R11). -/
  silent : s.control.station.watches = false → s.line.slot = none ∧ s.outbound.entries = []
  /-- CLASH holds no entry but the clash notice (R19). -/
  clashList : s.control.station = .clash → ∀ e ∈ s.held, e.content.key = .notice .stationClash
  /-- CLASH holds a WHEEL station's channel 0 at 0 (R36). -/
  clashDrive : s.control.station = .clash → s.role = some .wheel → s.ch0 = ⟨0, 0⟩
  /-- A halting station is named exactly while the counters are FROZEN (R149). -/
  halting : s.duty.frozen = true ↔ s.duty.halting ≠ 15
  /-- The isolation count runs from 0 to 3, and the line is ISOLATED exactly at 3 (R20). -/
  isolation : s.line.isolation ≤ 3
  health : s.line.health = .isolated ↔ s.line.isolation = 3

/-! ### Peer view -/

/-- A heard row's state agrees with its age: FRESH up to 1, STALE from 2, LOST from the least lost limit of 3, and the age
saturates at 255 (R46). -/
def Row.sound {α : Type} : Row α → Prop
  | .never => True
  | .heard .fresh age _ => age ≤ 1
  | .heard .stale age _ => 2 ≤ age ∧ age ≤ 49
  | .heard .lost age _ => 3 ≤ age ∧ age ≤ 255

/-! ### Ranges -/

/-- Every parameter lies in its range (R161). -/
def ParamsInRange (t : ParamTable) : Prop :=
  ∀ n, match paramRow n with | some r => within r.lo r.hi (par t n) | none => True

/-- The handled fields of row 0 lie in their ranges (R42, R165). -/
structure DemandContent.InRange (d : DemandContent) : Prop where
  baseSpeed : within 0 999 d.baseSpeed
  targetX : within (-32000) 32000 d.targetX
  targetY : within (-32000) 32000 d.targetY
  depth : within 0 30000 d.depth
  rate : within 0 2000 d.rate
  densityLimit : within 1100 1500 d.densityLimit
  freshDensity : within 1000 1300 d.freshDensity

/-- A pulse input (R56, R58, R59). -/
structure Pulse.InRange (w : Nat) (p : Pulse) : Prop where
  count : p.count ≤ 65535
  ring : p.ring.length ≤ w
  entries : ∀ c ∈ p.ring, c ≤ 65535
  speed : within 0 999 p.speed

/-- An analog input with the range of its quantity (R63, R65). -/
structure Analog.InRange (range : Int × Int) (a : Analog) : Prop where
  faults : a.faults ≤ 10
  good : a.status = .good → a.faults = 0
  faulted : a.status = .faulted → a.faults = 10
  supplied : a.valid = true → a.lastGood.isSome = true
  value : ∀ v, a.lastGood = some v → within range.1 range.2 v

/-- The wheel role (R69). -/
structure Wheel.InRange (t : ParamTable) (w : Wheel) : Prop where
  u : within 0 1000 w.u
  residue : within (-255) 255 w.residue
  ramped : within 0 999 w.ramped
  target : within 0 999 w.target
  error : within (-999) 999 w.error
  drive : within (-1000) 1000 w.drive
  history : w.history.length ≤ 3
  /-- A third jam in the history stands only in FAULTED (R85). -/
  jams : w.loop ≠ .faulted → w.history.length ≤ 2
  stall : w.stallCount ≤ 5
  backoff : w.backoffCount ≤ parN t 32
  jam : w.jamCount ≤ parN t 30
  acquire : w.acquireCount ≤ parN t 24
  lock : w.lockCount ≤ parN t 25
  exit : w.exitCount ≤ 2
  /-- A count that reaches its limit ends its state at once (R77, R78, R79). -/
  acquiring : w.loop = .acquire → w.acquireCount < parN t 24
  tracking : w.loop = .track → w.lockCount < parN t 25
  locked : w.loop = .locked → w.exitCount < 2

/-- The arbitration state (R94). -/
structure Arbitration.InRange (t : ParamTable) (a : Arbitration) : Prop where
  target : within (-(par t 42)) (par t 42) a.target
  next : within (-(par t 42)) (par t 42) a.next
  inEffect : within (-(par t 42)) (par t 42) a.inEffect
  leader : a.leader.isSome = true ↔ a.standing = .follower
  numbers : ∀ n, a.leader = some n → 1 ≤ n ∧ n ≤ 14
  /-- The starve count runs in a leader's STEER alone (R97, R100, R101). -/
  starve : a.starve < parN t 38
  starving : a.mode ≠ .steer ∨ a.standing = .follower → a.starve = 0
  relief : a.relief < parN t 39

/-- The steering role (R112). -/
structure Steer.InRange (t : ParamTable) (w : Steer) : Prop where
  usedX : within (-20000) 20000 w.usedX
  usedY : within (-20000) 20000 w.usedY
  offX : within (-32000) 32000 w.offX
  offY : within (-32000) 32000 w.offY
  resX : within (-999) 999 w.resX
  resY : within (-999) 999 w.resY
  depth : ∀ d, w.depthRef = some d → within 0 30000 d
  flapL : within 0 1000 w.flapL
  flapR : within 0 1000 w.flapR
  stuckL : w.stuckCountL ≤ parN t 52
  stuckR : w.stuckCountR ≤ parN t 52

/-- The return role (R129). -/
structure Return.InRange (t : ParamTable) (w : Return) : Prop where
  u : within 0 1000 w.u
  residue : within (-255) 255 w.residue
  trim : within 0 (par t 56) w.trim
  flowTarget : within 0 9999 w.flowTarget
  idle : w.state = .idle → w.u = 0 ∧ w.residue = 0 ∧ w.trim = 0 ∧ w.cavitating = false
  primeCount : w.primeCount ≤ parN t 60
  /-- A run that reaches its limit ends its state at once (R137, R138, R139, R140). -/
  primeRun : w.primeRun ≤ 5 ∧ (w.state = .priming → w.primeRun < 5)
  limitedExit : w.limitedExit ≤ 10 ∧ (w.state = .limited → w.limitedExit < 10)
  blockedRun : w.blockedRun ≤ parN t 61 ∧ (w.state = .running ∨ w.state = .limited → w.blockedRun < parN t 61)
  clearRun : w.clearRun ≤ 10 ∧ (w.state = .blocked → w.clearRun < 10)

/-- A channel's staged and applied value lie in its range (R34, R38). -/
structure Channel.InRange (lo : Int) (c : Channel) : Prop where
  staged : within lo 1000 c.staged
  applied : within lo 1000 c.applied

/-- The least value of channel 0: a WHEEL station's is signed (R34). -/
def State.least0 (s : State) : Int := if s.role = some .wheel then -1000 else 0

/-- Every value of the station lies in the range its chapter gives. -/
structure RangeInv (s : State) : Prop where
  params : ParamsInRange s.control.params
  demand : ∀ d, s.row0.content? = some d → d.InRange
  row0 : s.row0.sound
  rows : ∀ n, (s.row n).sound
  pulse1 : s.front.pulse1.InRange (parN s.control.params 11)
  pulse2 : s.front.pulse2.InRange (parN s.control.params 11)
  pairSpeed : within 0 999 s.front.pairSpeed
  analog : ∀ i, (s.input i).InRange (quantityRange s.role i)
  wheel : s.wheel.InRange s.control.params
  arb : s.arb.InRange s.control.params
  steer : s.steer.InRange s.control.params
  ret : s.ret.InRange s.control.params
  ch0 : s.ch0.InRange s.least0
  ch1 : s.ch1.InRange 0
  /-- Channel 1 is a STEER station's; unused it keeps a staged and an applied value of 0 (R34). -/
  unused1 : s.role ≠ some .steer → s.ch1 = ⟨0, 0⟩
  /-- The roles work in READY and ACTIVE and stand still in CLASH; elsewhere they hold their reset values, the offsets
  and residues apart (R93, R111, R128, R148). -/
  atRest : s.control.station.computes = false → s.control.station ≠ .clash →
    s.wheel = Wheel.reset ∧ s.arb = Arbitration.reset ∧ s.ret = Return.reset ∧
      s.steer = { Steer.reset with offX := s.steer.offX, offY := s.steer.offY, resX := s.steer.resX, resY := s.steer.resY }

/-! ### Occasions and effects that several statements share -/

/-- The station after it has heard a valid telegram of another number, whatever else the telegram does (R16, R20). -/
def State.afterHearing (s : State) : State :=
  { s with line := { s.line with receiver := .between, isolation := 0, health := .connected } }

/-- A telegram of another station reaches its block (R16, R17, R18). -/
structure State.TakesFromStation (s : State) (source target : Nibble) : Prop where
  running : s.inReset = false
  notSending : s.line.slot = none
  working : s.control.station.working = true
  source : source ≠ 0 ∧ source ≠ 15 ∧ source ≠ s.number
  target : target = s.number ∨ target = 15

/-- A telegram of the cabin station reaches its block (R16, R17, R18). -/
structure State.TakesFromCabin (s : State) (target : Nibble) : Prop where
  running : s.inReset = false
  notSending : s.line.slot = none
  working : s.control.station.working = true
  number : s.number ≠ 0
  target : target = s.number ∨ target = 15

/-- The outbound list after a block has told the event unit of a code with a detail (R171): where the code is in the report
mask, a NOTICE with repeat count 1 is offered, urgent where the code is in the urgency set. -/
def State.told (s : State) (first : Half) (code : EventCode) (o : Outbound) (detail : Half) : Outbound :=
  if inSet s.reportMask code = true then o.offer (.notice (inSet s.urgencySet code) code 1 detail first) else o

/-- A row before and after a mark (R46). -/
def RowAges {α : Type} (limit : Int) : Row α → Row α → Prop
  | .never, after => after = .never
  | .heard .lost age c, after => after = .heard .lost (min 255 (age + 1)) c
  | .heard .fresh age c, after | .heard .stale age c, after =>
    after = .heard (if limit ≤ min 255 (age + 1) then .lost else if 2 ≤ min 255 (age + 1) then .stale else .fresh)
      (min 255 (age + 1)) c

/-- A row passes from FRESH or STALE to LOST (R47). -/
def RowLost {α : Type} (before after : Row α) : Prop := before.live = true ∧ after.live = false

/-- A pulse input before and after a mark (R57, R58). -/
def PulseCloses (w : Nat) (first : Bool) (before after : Pulse) : Prop :=
  after.count = 0 ∧
    after.ring = (if first then before.ring
      else (before.ring ++ [before.count]).drop (before.ring.length + 1 - w)) ∧
    after = { before with count := after.count, ring := after.ring }

/-- A REPORT shows the station as it stands (R172; R33, R91, R110, R126, R146, R163 and the layout of spec/01 section 1.2). -/
structure ReportShows (t : State) (r : Report) : Prop where
  station : r.station = match t.control.station with
    | .configFault => .configFault
    | .ready => .ready
    | .active => .active
    | .setup | .starting | .strapFault | .clash => .setup
  mode : r.mode = match t.modeInForce with
    | .cut => 0
    | .hold => 1
    | .lift => 2
    | .stop => 3
  role : ∀ x, t.role = some x → r.role = x
  side : r.side = if t.role = some .ret then .zero else t.control.straps.side
  isolated : r.isolated = true ↔ t.line.health = .isolated
  frozen : r.frozen = t.duty.frozen
  leader : r.leader = true ↔ t.role = some .wheel ∧ t.arb.standing ≠ .follower
  flags : ∀ c, inSet r.flags c = true ↔ inSet t.flags c = true ∧ inSet t.reportMask c = true
  sample : r.sample = match t.marker.sample with
    | some n => n
    | none => t.marker.count
  setup : t.control.station = .setup → r.part = .none
  configFault : t.control.station = .configFault → r.part = .configFault (BitVec.ofNat 8 t.control.failingCheck)
  wheel : t.control.station.computes = true → t.role = some .wheel → ∃ p, r.part = .wheel p ∧
    p.speed1 = BitVec.ofInt 16 t.front.pulse1.speed ∧ p.speed2 = BitVec.ofInt 16 t.front.pulse2.speed ∧
    p.pairSpeed = BitVec.ofInt 16 t.front.pairSpeed ∧ p.pressure = BitVec.ofInt 16 ((t.input 0).lastGood.getD 0) ∧
    p.loop = (match t.wheel.loop with
      | .off => 0
      | .acquire => 1
      | .track => 2
      | .locked => 3
      | .stalled => 4
      | .backoff => 5
      | .faulted => 6) ∧
    p.mode = (match t.arb.mode with
      | .balance => 0
      | .steer => 1
      | .relief => 2) ∧
    p.inEffect = BitVec.ofInt 16 t.arb.inEffect ∧ p.drive = BitVec.ofInt 16 t.wheel.drive
  steer : t.control.station.computes = true → t.role = some .steer → ∃ p, r.part = .steer p ∧
    p.tiltX = BitVec.ofInt 16 ((t.input 0).lastGood.getD 0) ∧ p.tiltY = BitVec.ofInt 16 ((t.input 1).lastGood.getD 0) ∧
    p.offX = BitVec.ofInt 16 t.steer.offX ∧ p.offY = BitVec.ofInt 16 t.steer.offY ∧
    p.flapL = BitVec.ofInt 16 t.steer.flapL ∧ p.flapR = BitVec.ofInt 16 t.steer.flapR ∧
    p.posL = BitVec.ofInt 16 ((t.input 2).lastGood.getD 0) ∧ p.posR = BitVec.ofInt 16 ((t.input 3).lastGood.getD 0) ∧
    p.fusion = match t.steer.fusion with
      | .paired => 0
      | .single => 1
      | .disagree => 2
      | .borrowed => 3
      | .blind => 4
  ret : t.control.station.computes = true → t.role = some .ret → ∃ p, r.part = .ret p ∧
    p.flow = BitVec.ofInt 16 ((t.input 0).lastGood.getD 0) ∧ p.density = BitVec.ofInt 16 ((t.input 1).lastGood.getD 0) ∧
    p.suction = BitVec.ofInt 16 ((t.input 2).lastGood.getD 0) ∧ p.output = BitVec.ofInt 16 t.ret.u ∧
    p.target = BitVec.ofInt 16 t.ret.flowTarget ∧ p.trim = BitVec.ofInt 16 t.ret.trim ∧
    p.state = (match t.ret.state with
      | .idle => 0
      | .priming => 1
      | .running => 2
      | .limited => 3
      | .blocked => 4) ∧
    p.cavitating = if t.ret.cavitating = true then 1 else 0

/-- What a mark carrying the number `n` does at a station in SETUP, CONFIG FAULT, READY or ACTIVE, the line interface
apart (R26 and the table of spec/02 section 2.2). -/
structure MarkEffect (s : State) (n : Half) (t : State) : Prop where
  /-- The period marker (R24, R26, R30). -/
  marker : t.marker = ⟨n, false, some (1000 * parN s.control.params 1 + 200 * s.number.toNat),
    some (if s.param 2 < s.param 1 then 1000 * parN s.control.params 2 else 1000 * (parN s.control.params 1 - 1)),
    s.marker.sample⟩
  /-- A pending MARK is withdrawn (R26). -/
  withdrawn : ∀ e ∈ t.outbound.entries, e.content.key ≠ .mark
  /-- MARK channels apply, COMPUTE channels stand (R34). -/
  ch0 : t.ch0 = ⟨s.ch0.staged, if s.param 6 = 1 ∨ s.param 6 = 3 then s.ch0.applied else s.ch0.staged⟩
  ch1 : t.ch1 = ⟨s.ch1.staged, if s.param 6 = 2 ∨ s.param 6 = 3 then s.ch1.applied else s.ch1.staged⟩
  /-- The pulse counts close (R57, R58). -/
  pulse1 : PulseCloses (parN s.control.params 11) s.marker.firstMark s.front.pulse1 t.front.pulse1
  pulse2 : PulseCloses (parN s.control.params 11) s.marker.firstMark s.front.pulse2 t.front.pulse2
  front : t.front = { s.front with pulse1 := t.front.pulse1, pulse2 := t.front.pulse2 }
  /-- Every row ages (R46). -/
  row0 : RowAges (s.param 3) s.row0 t.row0
  rows : ∀ k, RowAges (s.param 3) (s.row k) (t.row k)
  /-- MARK IRREGULAR and PEER LOST latch where their grounds stand, and no other flag changes (R28, R29, R47). -/
  flags : ∀ c, inSet t.flags c = true ↔ inSet s.flags c = true ∨
    (c = .markIrregular ∧ ((s.marker.firstMark = false ∧ n ≠ s.marker.count + 1) ∨ s.marker.computeTimer.isSome = true)) ∨
    (c = .peerLost ∧ (RowLost s.row0 t.row0 ∨ ∃ k, RowLost (s.row k) (t.row k)))
  /-- The NOTICE of MARK IRREGULAR has the carried number as detail, those of PEER LOST the station number, in ascending
  number; between them the pending MARK is withdrawn, and the REPORT is offered last (R26, R28, R47, R171, R172). The first
  periods are the model's reading (log 15). -/
  outbound : ∃ r, ReportShows t r ∧ t.outbound = (
    let checked := if (s.marker.firstMark = false ∧ n ≠ s.marker.count + 1) ∨ s.marker.computeTimer.isSome = true then
      s.told s.marker.count .markIrregular s.outbound n else s.outbound
    let withdrawn := { checked with entries := checked.entries.filter fun e => e.content.key != .mark }
    let lost : List Nat := (if s.row0.live && !t.row0.live then [0] else []) ++
      ((List.range 14).map (· + 1)).filter fun k => (s.row k).live && !(t.row k).live
    (lost.foldl (fun o k => s.told n .peerLost o (BitVec.ofNat 16 k)) withdrawn).offer (.report r))
  /-- The setup window (R160). -/
  noWindow : s.control.station ≠ .setup → t.control = s.control
  window : s.control.station = .setup → s.control.setupCount + 1 < 300 →
    t.control = { s.control with setupCount := s.control.setupCount + 1 }
  closed : s.control.station = .setup → 300 ≤ s.control.setupCount + 1 →
    t.control = { s with control := { s.control with setupCount := s.control.setupCount + 1 } }.validate.control
  /-- A leader's or lone WHEEL station's differential (R106). -/
  arb : t.arb = if s.role = some .wheel ∧ s.arb.standing ≠ .follower then { s.arb with inEffect := s.arb.next } else s.arb
  /-- The REPORT offered last shows the state the mark leaves (R172). -/
  report : ∃ e ∈ t.outbound.entries, ∃ r, e.content = .report r ∧ ReportShows t r
  /-- Pending entries of other keys stand as they were. -/
  others : ∀ k, k ≠ .mark → k ≠ .report → k ≠ .notice .markIrregular → k ≠ .notice .peerLost →
    findKey k t.outbound.entries = findKey k s.outbound.entries
  /-- The rest of the station. -/
  frame : t.pending = s.pending ∧ t.hold = s.hold ∧ t.wheel = s.wheel ∧ t.steer = s.steer ∧ t.ret = s.ret ∧
    t.duty = s.duty

end Sys2Proof.Machine
end

