-- ==== Sys2Proof/Certificates/Slice0/Obligations.lean ====
section
/-! DEFINITION. The statements about the TL640 that are to be proved. Each docstring names the rules of spec/ it
formalises; "hypotheses" are on the state and the operands alone. -/

open Sys2Proof Sys2Proof.Machine

/-! ### The step and the resets -/

/-- A step takes the command at the front of the queue and is that command's effect on the state with the queue's rest;
on an empty queue the block idles (the model's choice, log 5). -/
def Obligations.StepRunsFrontCommand : Prop :=
  (∀ (c : Instr) (rest : List Instr) (s : State), s.pending = c :: rest → step s = exec c { s with pending := rest }) ∧
  ∀ s : State, s.pending = [] → step s = .next s

/-- POWER_ON_RESET (R168): the new cause holds, both outputs drive code 0, and every state stands at its power-on value. R168
gives those values at release: that they stand from the onset, and that supply and pin are two causes, is the model's
reading (log 20). That of all commands only the two reset commands act while the part is held is log 1. The power-on state
carries the model's choices for the straps (log 2), the raw codes (log 7), the filter levels (log 8), the failing check
(log 9), the validated role (log 36) and the setup window count (log 37). -/
def Obligations.PowerOnResetHolds : Prop :=
  (∀ (cause : ResetCause) (s : State), ∃ t, exec (.powerOnReset cause) s = .next t ∧
    t = { State.reset with
      pending := s.pending
      hold := match cause with
        | .resetPin => ⟨s.hold.supply, true⟩
        | .supplyRise | .supplyDip => ⟨true, s.hold.pin⟩ } ∧
    t.inReset = true ∧ t.outputCode0 = 0 ∧ t.outputCode1 = 0) ∧
  ∀ (c : Instr) (s : State), s.inReset = true → (∀ k, c ≠ .powerOnReset k) → (∀ k st, c ≠ .resetRelease k st) →
    exec c s = .next s

/-- The power-on values that the rules give, every one of them (R10, R20, R22, R23, R33, R34, R40, section 4.8, R93, R111,
R128, R148, R158, R168, R174). -/
def Obligations.ResetValuesAsStated : Prop :=
  let s := State.reset
  s.control.station = .starting ∧ s.control.settled = false ∧
    (∀ n r, paramRow n = some r → par s.control.params n = r.default) ∧
    s.outbound.entries = [] ∧ s.line = ⟨.between, .connected, 0, none⟩ ∧
    s.marker.count = 0 ∧ s.marker.firstMark = true ∧ s.marker.periodTimer = none ∧ s.marker.computeTimer = none ∧
    s.marker.sample = none ∧
    s.ch0 = ⟨0, 0⟩ ∧ s.ch1 = ⟨0, 0⟩ ∧ s.row0 = .never ∧ (∀ n, s.row n = .never) ∧
    (∀ p ∈ [s.front.pulse1, s.front.pulse2],
      p.running = false ∧ p.primed = false ∧ p.count = 0 ∧ p.ring = [] ∧ p.speed = 0) ∧
    s.front.pairSpeed = 0 ∧ s.front.encoderFault = none ∧
    (∀ i, (s.input i).status = .unread ∧ (s.input i).faults = 0 ∧ (s.input i).lastGood = none) ∧
    s.wheel = { loop := .off, u := 0, residue := 0, ramped := 0, direction := .forward, target := 0, error := 0, drive := 0
                acquireCount := 0, lockCount := 0, exitCount := 0, jamCount := 0, stallCount := 0, backoffCount := 0
                history := [] } ∧
    s.arb = { standing := .lone, leader := none, sameSide := false, mode := .balance, starve := 0, relief := 0
              target := 0, next := 0, inEffect := 0 } ∧
    s.steer = { fusion := .blind, usedX := 0, usedY := 0, offX := 0, offY := 0, resX := 0, resY := 0, depthRef := none
                resetPending := false, resetPeriod := none, flapL := 0, flapR := 0, stuckCountL := 0, stuckCountR := 0
                stuckL := false, stuckR := false } ∧
    s.ret = { state := .idle, u := 0, residue := 0, trim := 0, flowTarget := 0, cavitating := false, primeCount := 0
              primeRun := 0, limitedExit := 0, blockedRun := 0, clearRun := 0 } ∧
    (∀ i : Fin 4, s.duty.counters[i] = ⟨0, false, false⟩) ∧ s.duty.frozen = false ∧ s.duty.halting = 15 ∧ s.flags = 0

/-- RESET_RELEASE (R159, R168): when the last cause ends, every state takes its power-on value and the straps are read:
SETUP with the period timer and the pulse filters started, or STRAP FAULT for number 0 or 15 or role code 3. While
another cause holds, the part stays in reset. The model's choices in these whole states: supply and pin as two causes
(log 20), the straps as an operand (log 3), raw code 0 (log 7), filter levels at low (log 8), failing check 0
(log 9), no validated role (log 36), and a setup window count of 0 outside SETUP (log 37). -/
def Obligations.ResetReleaseReadsStraps : Prop :=
  ∀ (cause : ReleaseCause) (straps : Straps) (s : State), s.inReset = true →
    let left : ResetHold := match cause with
      | .supplyStood => ⟨false, s.hold.pin⟩
      | .pinHigh => ⟨s.hold.supply, false⟩
    (left.supply = true ∨ left.pin = true → exec (.resetRelease cause straps) s = .next { s with hold := left }) ∧
    (left.supply = false → left.pin = false → straps.number = 0 ∨ straps.number = 15 ∨ straps.role = 3 →
      exec (.resetRelease cause straps) s = .next { State.reset with
        pending := s.pending, hold := left
        control := { Control.reset with straps := straps, station := .strapFault } }) ∧
    (left.supply = false → left.pin = false → straps.number ≠ 0 → straps.number ≠ 15 → straps.role ≠ 3 →
      exec (.resetRelease cause straps) s = .next { State.reset with
        pending := s.pending, hold := left
        control := { Control.reset with straps := straps, station := .setup }
        marker := { Marker.reset with periodTimer := some (10000 + 200 * straps.number.toNat) }
        front := { FrontEnd.reset with
          pulse1 := { Pulse.reset with running := true }, pulse2 := { Pulse.reset with running := true } } })

/-- RESTART (R128, R158, R162, R167): parameters, counter values and overflow flags, offsets and residues are kept;
everything else takes its power-on value, and the straps are read. The model's choices in these whole states: the straps
as an operand (log 3), raw codes and filters as at power-on (log 24, with logs 7 and 8), failing check 0 (log 9), a
setup window count of 0 outside SETUP (log 37). Role code 3 is left open (log 12). -/
def Obligations.RestartKeepsWhatItMust : Prop :=
  ∀ (target : Nibble) (straps : Straps) (s : State), s.inReset = false → s.line.slot = none →
    (s.control.station.watches = true → s.number ≠ 0) → s.control.station ≠ .starting →
    target = 15 ∨ (target = s.number ∧ s.control.station ≠ .strapFault) →
    ∃ t, exec (.restart 0 target straps) s = .next t ∧
      t = { State.reset with
        pending := s.pending, hold := s.hold, control := t.control, marker := t.marker, front := t.front
        steer := { Steer.reset with offX := s.steer.offX, offY := s.steer.offY, resX := s.steer.resX, resY := s.steer.resY }
        duty := { Duty.reset with counters := t.duty.counters } } ∧
      (∀ i : Fin 4, t.duty.counters[i] = { s.duty.counters[i] with previous := false }) ∧
      t.control = { Control.reset with
        straps := straps, station := t.control.station, params := s.control.params, settled := t.control.settled
        validatedRole := s.control.validatedRole } ∧
      (∀ role, roleOfCode straps.role = some role → s.control.validatedRole ≠ some role → t.control.settled = false) ∧
      (∀ role, roleOfCode straps.role = some role → s.control.validatedRole = some role →
        t.control.settled = s.control.settled) ∧
      if straps.number = 0 ∨ straps.number = 15 ∨ straps.role = 3 then
        t.control.station = .strapFault ∧ t.marker = Marker.reset ∧ t.front = FrontEnd.reset
      else
        t.control.station = (if t.control.settled then .ready else .setup) ∧
        t.marker = { Marker.reset with
          periodTimer := some (1000 * parN s.control.params 1 + 200 * straps.number.toNat) } ∧
        t.front = { FrontEnd.reset with
          pulse1 := { Pulse.reset with running := true }, pulse2 := { Pulse.reset with running := true } }

/-- R174: at power-on reset and at RESTART every flag is clear and every level condition absent, the pending NOTICEs are
lost, and P4 and P5 return to their defaults or are kept. -/
def Obligations.ResetsClearEvents : Prop :=
  (∀ (cause : ResetCause) (s t : State), exec (.powerOnReset cause) s = .next t →
    t.flags = 0 ∧ (∀ c, t.levelHolds c = false) ∧ t.outbound.entries = [] ∧ t.line.slot = none ∧
      (∀ c, inSet t.reportMask c = true) ∧
      ∀ c, inSet t.urgencySet c = true ↔ c ∈ [.wheelJam, .wheelFaulted, .returnBlocked, .peerLost, .stationClash, .sensorFault]) ∧
  ∀ (target : Nibble) (straps : Straps) (s t : State), s.inReset = false → s.line.slot = none →
    (s.control.station.watches = true → s.number ≠ 0) → s.control.station ≠ .starting →
    target = 15 ∨ (target = s.number ∧ s.control.station ≠ .strapFault) →
    exec (.restart 0 target straps) s = .next t →
    t.flags = 0 ∧ (∀ c, t.levelHolds c = false) ∧ t.outbound.entries = [] ∧ t.line.slot = none ∧
      t.reportMask = s.reportMask ∧ t.urgencySet = s.urgencySet

/-! ### Terminals -/

/-- FILTER_SAMPLE (R55, R56): the first sample sets the accepted level; two agreeing samples that differ from it are an
accepted edge, which counts where the edge select P8 or P9 names it, up to 65535. -/
def Obligations.FilterSampleAcceptsEdge : Prop :=
  let sampled (select : Int) (level : Level) (p : Pulse) : Pulse :=
    if p.running = false then p
    else if p.primed = false then { p with primed := true, accepted := level, last := level }
    else if level = p.last ∧ level ≠ p.accepted then
      { p with
        accepted := level
        count := if select = 2 ∨ (select = 0 ∧ level = .high) ∨ (select = 1 ∧ level = .low) then min 65535 (p.count + 1)
          else p.count }
    else { p with last := level }
  ∀ (level : Level) (s : State), s.inReset = false →
    exec (.filterSample .first level) s =
      .next { s with front := { s.front with pulse1 := sampled (s.param 8) level s.front.pulse1 } } ∧
    exec (.filterSample .second level) s =
      .next { s with front := { s.front with pulse2 := sampled (s.param 9) level s.front.pulse2 } }

/-- ANALOG_CONVERSION (R63): the input's latest raw code is replaced, and nothing else changes. -/
def Obligations.ConversionReplacesRawCode : Prop :=
  ∀ (i : Fin 4) (raw : BitVec 12) (s : State), s.inReset = false → ∃ t, exec (.analogConversion i raw) s = .next t ∧
    t.input i = { s.input i with raw := raw } ∧ (∀ j, j ≠ i → t.input j = s.input j) ∧
    t = { s with front := { s.front with analog := t.front.analog } }

/-! ### Timers -/

/-- PERIOD_TIMER_EXPIRY (R24): a MARK carrying the period count plus 1 is offered and stands at the head of the list, and
the timer restarts for T plus 0.2 ms times the own number. -/
def Obligations.PeriodTimerExpiryOffersMark : Prop :=
  ∀ s : State, s.inReset = false → s.control.station.working = true → s.marker.periodTimer.isSome = true →
    let marker := { s.marker with periodTimer := some (1000 * parN s.control.params 1 + 200 * s.number.toNat) }
    ((∀ e ∈ s.outbound.entries, e.content.key ≠ .mark) →
      exec .periodTimerExpiry s = .next { s with
        marker := marker
        outbound := ⟨⟨.mark (s.marker.count + 1), s.outbound.nextStamp, 0⟩ :: s.outbound.entries,
          s.outbound.nextStamp + 1⟩ }) ∧
    ∀ n stamp attempts rest, s.outbound.entries = ⟨.mark n, stamp, attempts⟩ :: rest →
      (∀ e ∈ rest, e.content.key ≠ .mark) →
      exec .periodTimerExpiry s = .next { s with
        marker := marker
        outbound := { s.outbound with entries := ⟨.mark (s.marker.count + 1), stamp, attempts⟩ :: rest } }

/-- COMPUTE_POINT in READY and ACTIVE (R31, R34, R35, R62, R66, R169, R171): the compute timer stops, the period count becomes
the sample period number, the station's role alone moves and writes the staged values, COMPUTE channels apply, no flag is
cleared, and every raise of the front end and of the role latches its flag and offers its NOTICE, COUNT HALTs being offered
last. The order of raises that no rule orders is the model's choice (logs 14, 32, 33, 34). In SETUP and CONFIG FAULT no compute
runs and the timer stops. -/
def Obligations.ComputePointRunsRole : Prop :=
  (∀ s : State, s.inReset = false → s.control.station.configures = true → s.marker.computeTimer.isSome = true →
    exec .computePoint s = .next { s with marker := { s.marker with computeTimer := none } }) ∧
  ∀ s : State, s.inReset = false → s.control.station.computes = true → s.marker.computeTimer.isSome = true →
    ∃ t, exec .computePoint s = .next t ∧
      t.marker = { s.marker with computeTimer := none, sample := some s.marker.count } ∧
      (t.pending = s.pending ∧ t.hold = s.hold ∧ t.control = s.control ∧ t.line = s.line ∧ t.row0 = s.row0 ∧
        t.rows = s.rows) ∧
      (s.role ≠ some .wheel → t.wheel = s.wheel ∧ t.arb = s.arb) ∧ (s.role ≠ some .steer → t.steer = s.steer) ∧
      (s.role ≠ some .ret → t.ret = s.ret) ∧
      (s.role = some .wheel →
        t.wheel = (wheelCompute t.wheelInput s.wheel).1 ∧ t.arb = (arbCompute t.arbInput s.arb).1) ∧
      (s.role = some .steer →
        t.steer = (steerCompute { t.steerInput with appliedL := s.ch0.applied, appliedR := s.ch1.applied } s.steer).1) ∧
      (s.role = some .ret → t.ret = (returnCompute t.returnInput s.ret).1) ∧
      (t.ch0.staged = match s.role with
        | some .wheel => if s.modeInForce = .stop then 0 else t.wheel.drive
        | some .steer => t.steer.flapL
        | some .ret => if s.modeInForce = .stop then 0 else t.ret.u
        | none => s.ch0.staged) ∧
      t.ch1.staged = (if s.role = some .steer then t.steer.flapR else s.ch1.staged) ∧
      t.ch0.applied = (if s.param 6 = 1 ∨ s.param 6 = 3 then t.ch0.staged else s.ch0.applied) ∧
      t.ch1.applied = (if s.param 6 = 2 ∨ s.param 6 = 3 then t.ch1.staged else s.ch1.applied) ∧
      (let encoder : List Raise :=
        if t.front.encoderFault = s.front.encoderFault then []
        else match t.front.encoderFault with
          | some .first => [(.encoderFault, 1)]
          | some .second => [(.encoderFault, 2)]
          | none => []
      let sensors : List Raise :=
        ((List.finRange 4).filter fun i => (s.input i).status != .faulted && (t.input i).status == .faulted).map
          fun i => (.sensorFault, (i.val : Int))
      let raises : List Raise := encoder ++ sensors ++ match s.role with
        | some .wheel => (wheelCompute t.wheelInput s.wheel).2 ++ (arbCompute t.arbInput s.arb).2
        | some .steer => (steerCompute { t.steerInput with appliedL := s.ch0.applied, appliedR := s.ch1.applied } s.steer).2
        | some .ret => (returnCompute t.returnInput s.ret).2
        | none => []
      (∀ c, inSet t.flags c = true ↔ inSet s.flags c = true ∨ ∃ detail, (c, detail) ∈ raises) ∧
      ∃ halts : List Byte, (s.duty.frozen = true → halts = []) ∧
        t.outbound = halts.foldl (fun o i => o.offer (.countHalt i))
          (raises.foldl (fun o r => s.told s.marker.count r.1 o (BitVec.ofInt 16 r.2)) s.outbound)) ∧
      t.duty.frozen = s.duty.frozen ∧ t.duty.halting = s.duty.halting ∧ (s.duty.frozen = true → t.duty = s.duty)

/-! ### Attempts -/

/-- ATTEMPT_START (R4, R6, R12): the head of the list enters the empty slot, with the low byte of the period count as
header byte 3. A station that is reading a telegram does not find the line free (log 4). -/
def Obligations.AttemptStartTakesHead : Prop :=
  ∀ (s : State) (e : Entry) (rest : List Entry), s.inReset = false → s.line.slot = none → s.line.receiver = .between →
    s.control.station.working = true ∨ s.control.station = .clash → s.outbound.entries = e :: rest →
    exec .attemptStart s = .next { s with
      outbound := { s.outbound with entries := rest }
      line := { s.line with slot := some ⟨e, s.marker.count.setWidth 8⟩ } }

/-- ATTEMPT_OUTBID (R7, R12, R14): the slot empties, the winner's telegram is received, and the entry returns to its place
in the order. Where an entry of its key is pending the two merge: the returning entry's stamp and attempts, the newer
content of a MARK, REPORT or COUNT ANSWER, the returning COUNT HALT; of a NOTICE the returning kind and first period, the
newer detail, and both repeat counts added up to 255. -/
def Obligations.AttemptOutbidReturnsEntry : Prop :=
  let merged (returning newer : Content) : Content :=
    match returning, newer with
    | .mark _, .mark n => .mark n
    | .report _, .report r => .report r
    | .countHalt i, .countHalt _ => .countHalt i
    | .notice urgent code repeats _ first, .notice _ _ newRepeats newDetail _ =>
      .notice urgent code (if 255 < repeats + newRepeats then 255 else repeats + newRepeats) newDetail first
    | .countAnswer _, .countAnswer a => .countAnswer a
    | c, _ => c
  ∀ (s : State) (slot : Slot), ListInv s → s.inReset = false → s.line.slot = some slot →
    ∃ l : List Entry, exec .attemptOutbid s = .next { s with
        line := { s.line with slot := none, receiver := .inTelegram }
        outbound := { s.outbound with entries := l } } ∧
      (l.Pairwise fun a b => a.before b = true) ∧
      ((∀ p ∈ s.outbound.entries, p.content.key ≠ slot.entry.content.key) → l.Perm (slot.entry :: s.outbound.entries)) ∧
      ∀ p ∈ s.outbound.entries, p.content.key = slot.entry.content.key →
        l.Perm ({ slot.entry with content := merged slot.entry.content p.content } ::
          s.outbound.entries.filter fun e => e.content.key != p.content.key)

/-- ATTEMPT_FAILED of an entry other than a MARK (R8, R14, R153): below its third failure the entry returns with its
attempt count raised; at the third it is discarded, and a discarded COUNT HALT freezes the own counters. -/
def Obligations.AttemptFailedCountsFailures : Prop :=
  ∀ (s : State) (slot : Slot), s.inReset = false → s.line.slot = some slot → slot.entry.content.key ≠ .mark →
    let line := { s.line with slot := none, receiver := .between }
    (slot.entry.attempts < 2 →
      exec .attemptFailed s = .next { s with
        line := line, outbound := s.outbound.giveBack { slot.entry with attempts := slot.entry.attempts + 1 } }) ∧
    (2 ≤ slot.entry.attempts → slot.entry.content.key ≠ .countHalt →
      exec .attemptFailed s = .next { s with line := line }) ∧
    (2 ≤ slot.entry.attempts → slot.entry.content.key = .countHalt →
      exec .attemptFailed s = .next { s with
        line := line, duty := { s.duty with frozen := true, halting := s.number }
        outbound := { s.outbound with entries := s.outbound.entries.filter fun e => e.content.key != .countHalt } })

/-- ATTEMPT_SENT and ATTEMPT_FAILED of the own MARK (R8, R9, R20, R26, R27): at SENT the station takes its own MARK as a
mark; at FAILED the MARK is discarded and a local mark carrying the period count plus 1 is taken. Either raises the isolation
count, and at 3 the line is ISOLATED. The first periods of the MARK IRREGULAR and PEER LOST notices are the model's reading
(log 15). -/
def Obligations.OwnMarkTakenSentOrFailed : Prop :=
  ∀ (s : State) (slot : Slot) (n : Half), s.inReset = false → s.control.station.working = true →
    s.line.slot = some slot → slot.entry.content = .mark n →
    let line := { s.line with
      slot := none, receiver := .between, isolation := min 3 (s.line.isolation + 1)
      health := if 2 ≤ s.line.isolation then .isolated else s.line.health }
    (∃ t, exec .attemptSent s = .next t ∧ MarkEffect s n t ∧ t.line = line) ∧
    ∃ t, exec .attemptFailed s = .next t ∧ MarkEffect s (s.marker.count + 1) t ∧ t.line = line

/-- ATTEMPT_SENT of any other entry (R9, R153): the slot empties, and an own COUNT HALT freezes the own counters with the
own number as halting station and withdraws a newer pending one. -/
def Obligations.SentEntryLeavesSlot : Prop :=
  ∀ (s : State) (slot : Slot), s.inReset = false → s.line.slot = some slot → slot.entry.content.key ≠ .mark →
    let line := { s.line with slot := none, receiver := .between }
    (slot.entry.content.key ≠ .countHalt → exec .attemptSent s = .next { s with line := line }) ∧
    (slot.entry.content.key = .countHalt →
      exec .attemptSent s = .next { s with
        line := line, duty := { s.duty with frozen := true, halting := s.number }
        outbound := { s.outbound with entries := s.outbound.entries.filter fun e => e.content.key != .countHalt } })

/-! ### Telegrams without content for a block -/

/-- BAD_TELEGRAM, MALFORMED_TELEGRAM and TELEGRAM_HEARD (R5, R16, R17, R20): a telegram that cannot be used is discarded with
no effect but that the receiver waits for the line again; a valid one of another number that no block takes counts for
line health alone, and in STRAP FAULT one of the strap number for nothing. That STRAP FAULT counts line health and watches for no
own number is the model's reading (log 26), and that CLASH counts line health is its choice (log 30). -/
def Obligations.TelegramsWithoutBlock : Prop :=
  ∀ s : State, s.inReset = false → s.control.station ≠ .starting → s.line.slot = none →
    exec .badTelegram s = .next { s with line := { s.line with receiver := .between } } ∧
    exec .malformedTelegram s = .next { s with line := { s.line with receiver := .between } } ∧
    (∀ source, source ≠ s.number → exec (.telegramHeard source) s = .next s.afterHearing) ∧
    (s.control.station = .strapFault →
      exec (.telegramHeard s.number) s = .next { s with line := { s.line with receiver := .between } })

/-- CLASH_ENTRY (R19, R23, R36): the list is left with the clash notice alone, STATION CLASH is latched, both timers stop, a
WHEEL station's channel 0 is forced to 0, and the station is in CLASH. An own-number telegram heard in CLASH latches the flag
again and counts up the clash notice while that is pending. STRAP FAULT watches for no own number. That the later telegram
counts up the notice whatever the report mask holds is the model's reading (log 18), and so is the STRAP FAULT clause
(log 26). -/
def Obligations.ClashEntryEmptiesList : Prop :=
  (∀ s : State, s.inReset = false → s.control.station.working = true → s.line.slot = none →
    exec .clashEntry s = .next { s with
      line := { s.line with receiver := .between }
      flags := s.flags ||| 0x1000#16
      outbound := ⟨[⟨.notice true .stationClash 1 (s.number.setWidth 16) s.marker.count, s.outbound.nextStamp, 0⟩],
        s.outbound.nextStamp + 1⟩
      control := { s.control with station := .clash }
      marker := { s.marker with periodTimer := none, computeTimer := none }
      ch0 := if s.role = some .wheel then ⟨0, 0⟩ else s.ch0 }) ∧
  (∀ s : State, s.inReset = false → s.control.station = .clash → s.line.slot = none →
    let line := { s.line with receiver := .between }
    (s.outbound.entries = [] → exec .clashEntry s = .next { s with line := line, flags := s.flags ||| 0x1000#16 }) ∧
    ∀ urgent repeats detail first stamp attempts,
      s.outbound.entries = [⟨.notice urgent .stationClash repeats detail first, stamp, attempts⟩] →
      exec .clashEntry s = .next { s with
        line := line, flags := s.flags ||| 0x1000#16
        outbound := { s.outbound with
          entries := [⟨.notice urgent .stationClash (min 255 (repeats + 1)) (s.number.setWidth 16) first, stamp,
            attempts⟩] } }) ∧
  ∀ s : State, s.inReset = false → s.control.station = .strapFault → s.line.slot = none →
    exec .clashEntry s = .next { s with line := { s.line with receiver := .between } }

/-- R5, R17, R18, R19: a telegram of another number reaches its block only with the own number or 15 as target, from a source
of 1 to 14 for what stations send and 0 for what the cabin sends, and in a state that acts on its kind; otherwise it acts as
TELEGRAM_HEARD. One of the own number acts as CLASH_ENTRY, and a REPORT whose part does not fit as MALFORMED_TELEGRAM. That a
telegram command is whichever row of the table the state makes it is the model's reading (log 16, and log 26 for STRAP
FAULT). -/
def Obligations.TelegramActsAsItsRow : Prop :=
  (∀ (c : Instr) (s : State), exec (s.asRow c) s = exec c s) ∧
  ∀ (s : State) (source target : Nibble),
    let heard (c : Instr) : Prop := exec c s = exec (.telegramHeard source) s
    let named := target = s.number ∨ target = 15
    let works := s.control.station = .setup ∨ s.control.station = .configFault ∨ s.control.station = .ready ∨
      s.control.station = .active
    (source = 0 ∨ source = 15 ∨ ¬ named ∨ ¬ works →
      (∀ n, heard (.mark source target n)) ∧ (∀ i, heard (.countHalt source target i)) ∧
      ∀ r, r.wellFormed = true → heard (.report source target r)) ∧
    (source ≠ 0 ∨ ¬ named ∨ ¬ works →
      heard (.countThaw source target) ∧ (∀ f, heard (.demand source target f)) ∧
      (∀ codes, heard (.flagClear source target codes)) ∧ (∀ i v, heard (.countLoad source target i v)) ∧
      ∀ i, heard (.countQuery source target i)) ∧
    (source ≠ 0 ∨ ¬ named ∨ (s.control.station ≠ .setup ∧ s.control.station ≠ .configFault) →
      (∀ p v, heard (.setup source target p v)) ∧ heard (.setupClose source target)) ∧
    (source ≠ 0 ∨ ¬ named ∨ s.control.station = .starting ∨ (s.control.station = .strapFault ∧ target ≠ 15) →
      ∀ straps, heard (.restart source target straps)) ∧
    (∀ r, r.wellFormed = false → exec (.report source target r) s = exec .malformedTelegram s) ∧
    (works ∨ s.control.station = .clash → source = s.number →
      exec (.telegramHeard source) s = exec .clashEntry s ∧
      ∀ c kind payload, onLine c = some (kind, source, target, payload) → c.wellFormed = true →
        exec c s = exec .clashEntry s)

/-- R6, R7, R8, R9, R18, R24, R31, R168: a command whose occasion does not stand changes nothing (the model's choice for what
the rules exclude, log 1): a release outside a reset, an expiry of a stopped timer, an attempt without an entry or with the
slot full, an outcome without an attempt, a telegram while the station is sending. -/
def Obligations.NoOccasionNoEffect : Prop :=
  ∀ s : State, s.inReset = false →
    (∀ cause straps, exec (.resetRelease cause straps) s = .next s) ∧
    (s.marker.periodTimer = none → exec .periodTimerExpiry s = .next s) ∧
    (s.marker.computeTimer = none → exec .computePoint s = .next s) ∧
    (s.outbound.entries = [] ∨ s.line.slot.isSome = true ∨ s.line.receiver = .inTelegram →
      exec .attemptStart s = .next s) ∧
    (s.line.slot = none →
      exec .attemptOutbid s = .next s ∧ exec .attemptFailed s = .next s ∧ exec .attemptSent s = .next s) ∧
    ∀ (c : Instr) (kind source target : Nibble) (payload : List Byte), s.line.slot.isSome = true →
      onLine c = some (kind, source, target, payload) → exec c s = .next s

/-! ### Telegrams of the frame -/

/-- MARK (R20, R26): a valid MARK delivered from another station is taken as a mark. The first periods of the MARK IRREGULAR and
PEER LOST notices are the model's reading (log 15). -/
def Obligations.MarkFromOtherTaken : Prop :=
  ∀ (source target : Nibble) (n : Half) (s : State), s.TakesFromStation source target →
    ∃ t, exec (.mark source target n) s = .next t ∧ MarkEffect s n t ∧ t.line = s.afterHearing.line

/-- COUNT_HALT (R15, R154): running counters freeze with the source as halting station, frozen ones keep their record, and
a pending own COUNT HALT is withdrawn. -/
def Obligations.CountHaltFreezes : Prop :=
  ∀ (source target : Nibble) (index : Byte) (s : State), s.TakesFromStation source target →
    exec (.countHalt source target index) s = .next { s.afterHearing with
      duty := if s.duty.frozen = true then s.duty else { s.duty with frozen := true, halting := source }
      outbound := { s.outbound with entries := s.outbound.entries.filter fun e => e.content.key != .countHalt } }

/-- REPORT (R43, R44, R107): the row of the source becomes FRESH with age 0 and the content of the REPORT whole; a
follower adopts the differential, clamped to its own P42, and the arbitration mode of its leader's WHEEL part. A mode code
above 2 is left open (log 10). A RETURN REPORT with side 1 is recorded as read by the model's choice (log 35). -/
def Obligations.ReportRefreshesRow : Prop :=
  ∀ (source target : Nibble) (r : Report) (s : State), s.TakesFromStation source target → r.wellFormed = true →
    ∃ t, exec (.report source target r) s = .next t ∧
      t = { s.afterHearing with rows := t.rows, arb := t.arb } ∧
      t.row source.toNat = .heard .fresh 0 ⟨r.station, r.role, r.side, r.flags, r.sample, r.part⟩ ∧
      (∀ k, k ≠ source.toNat → t.row k = s.row k) ∧
      ((s.role ≠ some .wheel ∨ s.arb.standing ≠ .follower ∨ s.arb.leader ≠ some source.toNat ∨ ∀ p, r.part ≠ .wheel p) →
        t.arb = s.arb) ∧
      ∀ p, s.role = some .wheel → s.arb.standing = .follower → s.arb.leader = some source.toNat → r.part = .wheel p →
        t.arb = { s.arb with inEffect := clamp (-(s.param 42)) (s.param 42) p.inEffect.toInt, mode := t.arb.mode } ∧
        (p.mode = 0 → t.arb.mode = .balance) ∧ (p.mode = 1 → t.arb.mode = .steer) ∧ (p.mode = 2 → t.arb.mode = .relief)

/-! ### Telegrams of the cabin -/

/-- COUNT_THAW (R155): RUNNING and halting station 15; nothing else changes, no answer is offered and a pending own COUNT
HALT stays. -/
def Obligations.CountThawRuns : Prop :=
  ∀ (target : Nibble) (s : State), s.TakesFromCabin target →
    exec (.countThaw 0 target) s =
      .next { s.afterHearing with duty := { s.duty with frozen := false, halting := 15 } }

/-- COUNT_LOAD and COUNT_QUERY (R156, R157): a load sets a frozen counter and clears its overflow flag and is refused while
RUNNING; a query changes no counter; each answers under the key of its index in every case. -/
def Obligations.CountRequestsAnswered : Prop :=
  ∀ (target : Nibble) (index : Byte) (v : Quad) (s : State), s.TakesFromCabin target →
    (∀ i : Fin 4, index.toNat = i.val →
      let c := s.duty.counters[i]
      (s.duty.frozen = true →
        exec (.countLoad 0 target index v) s = .next { s.afterHearing with
          duty := { s.duty with counters := s.duty.counters.set i.val ⟨v, false, c.previous⟩ i.isLt }
          outbound := s.outbound.offer (.countAnswer ⟨index, 1, v, false, true, s.duty.halting⟩) }) ∧
      (s.duty.frozen = false →
        exec (.countLoad 0 target index v) s = .next { s.afterHearing with
          outbound := s.outbound.offer (.countAnswer ⟨index, 2, c.value, c.overflow, false, s.duty.halting⟩) }) ∧
      exec (.countQuery 0 target index) s = .next { s.afterHearing with
        outbound := s.outbound.offer (.countAnswer ⟨index, 0, c.value, c.overflow, s.duty.frozen, s.duty.halting⟩) }) ∧
    (4 ≤ index.toNat →
      exec (.countLoad 0 target index v) s = .next { s.afterHearing with
        outbound := s.outbound.offer (.countAnswer ⟨index, 3, 0, false, s.duty.frozen, s.duty.halting⟩) } ∧
      exec (.countQuery 0 target index) s = .next { s.afterHearing with
        outbound := s.outbound.offer (.countAnswer ⟨index, 3, 0, false, s.duty.frozen, s.duty.halting⟩) })

/-- FLAG_CLEAR (R170, R173): a named edge flag is cleared, a named level flag is cleared where its condition of R170 is absent,
and nothing else changes; in CLASH and STRAP FAULT the telegram is discarded. That the discarded telegram counts for line
health is the model's choice in CLASH (log 30) and its reading in STRAP FAULT (log 26). -/
def Obligations.FlagClearKeepsHeldConditions : Prop :=
  let condition (s : State) (c : EventCode) : Prop :=
    match c with
    | .wheelFaulted => s.wheel.loop = .faulted
    | .encoderFault => s.front.encoderFault ≠ none
    | .tiltDisagree => s.steer.fusion = .disagree
    | .flapStuck => s.steer.stuckL = true ∨ s.steer.stuckR = true
    | .returnLimited => s.ret.state = .limited
    | .returnBlocked => s.ret.state = .blocked
    | .cavitation => s.ret.cavitating = true
    | .stationClash => s.control.station = .clash ∨ s.arb.sameSide = true
    | .sensorFault => ∃ i : Fin 4, (s.input i).status = .faulted ∧
        (s.role = some .steer ∨ (s.role = some .wheel ∧ i = 0) ∨ (s.role = some .ret ∧ i ≠ 3))
    | .lockGained | .lockLost | .wheelJam | .depthJump | .peerLost | .valueClamped | .markIrregular => False
  (∀ (target : Nibble) (codes : Half) (s : State), s.TakesFromCabin target →
    ∃ t, exec (.flagClear 0 target codes) s = .next t ∧ t = { s.afterHearing with flags := t.flags } ∧
      ∀ c, inSet t.flags c = true ↔ inSet s.flags c = true ∧ (inSet codes c = true → condition s c)) ∧
  ∀ (target : Nibble) (codes : Half) (s : State), s.inReset = false → s.line.slot = none →
    (s.control.station = .clash → s.number ≠ 0 → exec (.flagClear 0 target codes) s = .next s.afterHearing) ∧
    (s.control.station = .strapFault → exec (.flagClear 0 target codes) s = .next (if s.number = 0 then
      { s with line := { s.line with receiver := .between } } else s.afterHearing))

/-- SETUP in SETUP and CONFIG FAULT (R58, R149, R161): an unknown number does nothing; the value, unsigned for P4, P5 and
P53, is clamped to the parameter's range, with VALUE CLAMPED where it lies outside; in SETUP the window count starts again;
a smaller P11 shrinks the rings; a counter's parameter sets its previous condition to false. That the window count stands in
CONFIG FAULT is the model's reading (log 25). -/
def Obligations.SetupStoresParameter : Prop :=
  ∀ (target : Nibble) (p : Byte) (value : Half) (s : State), s.TakesFromCabin target →
    s.control.station.configures = true →
    (paramRow p.toNat = none → exec (.setup 0 target p value) s = .next s.afterHearing) ∧
    ∀ row, paramRow p.toNat = some row →
      let raw : Int := if p = 4 ∨ p = 5 ∨ p = 53 then value.toNat else value.toInt
      let v := max row.lo (min row.hi raw)
      let told := v ≠ raw ∧ inSet s.reportMask .valueClamped = true
      ∃ t, exec (.setup 0 target p value) s = .next t ∧
        t = { s.afterHearing with
          control := t.control, front := t.front, duty := t.duty, flags := t.flags, outbound := t.outbound } ∧
        t.control = { s.control with
          params := t.control.params
          setupCount := if s.control.station = .setup then 0 else s.control.setupCount } ∧
        par t.control.params p.toNat = v ∧
        (∀ m, 1 ≤ m → m ≠ p.toNat → par t.control.params m = par s.control.params m) ∧
        t.flags = (if v = raw then s.flags else s.flags ||| 0x2000#16) ∧
        (¬ told → t.outbound = s.outbound) ∧
        (told → t.outbound = s.outbound.offer (.notice (inSet s.urgencySet .valueClamped) .valueClamped 1
          (BitVec.ofNat 16 p.toNat) s.marker.count)) ∧
        t.front = (if p = 11 then
          { s.front with
            pulse1 := { s.front.pulse1 with ring := s.front.pulse1.ring.drop (s.front.pulse1.ring.length - v.toNat) }
            pulse2 := { s.front.pulse2 with ring := s.front.pulse2.ring.drop (s.front.pulse2.ring.length - v.toNat) } }
          else s.front) ∧
        t.duty = { s.duty with counters := t.duty.counters } ∧
        ∀ i : Fin 4, t.duty.counters[i] =
          (if 62 ≤ p.toNat ∧ (p.toNat - 62) / 3 = i.val then { s.duty.counters[i] with previous := false }
           else s.duty.counters[i])

/-- SETUP_CLOSE (R162): the checks run in order and stop at the first that fails: READY, settled, with the validated role
recorded, or CONFIG FAULT with the failing check number. -/
def Obligations.SetupCloseValidates : Prop :=
  ∀ (target : Nibble) (s : State), s.TakesFromCabin target → s.control.station.configures = true →
    let checks : List Bool :=
      [s.param 2 < s.param 1, s.param 36 < s.param 35, s.param 23 ≤ s.param 22, s.param 55 ≤ s.param 56,
       s.param 12 ≠ s.param 13, s.role = some .wheel ∨ s.param 14 ≠ s.param 15, s.role = some .wheel ∨ s.param 16 ≠ s.param 17,
       s.role ≠ some .steer ∨ s.param 18 ≠ s.param 19]
    ((∀ b ∈ checks, b = true) →
      exec (.setupClose 0 target) s = .next { s.afterHearing with
        control := { s.control with settled := true, validatedRole := s.role, station := .ready } }) ∧
    ((∃ b ∈ checks, b = false) →
      exec (.setupClose 0 target) s = .next { s.afterHearing with
        control := { s.control with
          settled := false, failingCheck := checks.findIdx (fun b => !b) + 1, station := .configFault } })

/-- DEMAND in READY and ACTIVE (R35, R42, R80, R90, R122, R131, R145, R164, R165, R166): row 0 is refreshed, the station is
ACTIVE under the handled mode, each handled field is told as VALUE CLAMPED with its index as detail, in ascending index, a
STEER station notes an offset reset, and a STOP acts at its arrival on a WHEEL or RETURN station, with LOCK LOST of detail 0
from LOCKED. That VALUE CLAMPED is told before LOCK LOST is the model's choice (log 13). In SETUP and CONFIG FAULT a DEMAND
refreshes row 0 and does nothing else. -/
def Obligations.DemandTakenAtArrival : Prop :=
  (∀ (before : Direction) (f : DemandFields), handleDemand before f =
    { mode := match f.mode.toNat with | 0 => .cut | 1 => .hold | 2 => .lift | 3 => .stop | _ => .hold
      direction := match f.direction.toNat with | 0 => .forward | 1 => .reverse | _ => before
      baseSpeed := (min 999 f.baseSpeed.toNat : Nat)
      targetX := max (-32000) (min 32000 f.targetX.toInt)
      targetY := max (-32000) (min 32000 f.targetY.toInt)
      depth := (min 30000 f.depth.toNat : Nat)
      rate := (min 2000 f.rate.toNat : Nat)
      densityLimit := (max 1100 (min 1500 f.densityLimit.toNat) : Nat)
      freshDensity := (max 1000 (min 1300 f.freshDensity.toNat) : Nat) }) ∧
  (∀ (target : Nibble) (f : DemandFields) (s : State), s.TakesFromCabin target → s.control.station.configures = true →
    exec (.demand 0 target f) s = .next { s.afterHearing with
      row0 := .heard .fresh 0
        (handleDemand (match s.row0 with | .never => .forward | .heard _ _ d => d.direction) f) }) ∧
  ∀ (target : Nibble) (f : DemandFields) (s : State), s.TakesFromCabin target → s.control.station.computes = true →
    let before := match s.row0 with | .never => Direction.forward | .heard _ _ d => d.direction
    let d := handleDemand before f
    ∃ t, exec (.demand 0 target f) s = .next t ∧
      t.row0 = .heard .fresh 0 d ∧ t.control = { s.control with station := .active } ∧ t.modeInForce = d.mode ∧
      t.line = s.afterHearing.line ∧
      t.ch0 = (if d.mode = .stop ∧ (s.role = some .wheel ∨ s.role = some .ret) then ⟨0, 0⟩ else s.ch0) ∧
      t.wheel = (if d.mode = .stop ∧ s.role = some .wheel then
        { s.wheel with
          loop := .off, u := 0, residue := 0, ramped := 0, drive := 0, acquireCount := 0, lockCount := 0, exitCount := 0
          jamCount := 0, stallCount := 0, backoffCount := 0
          history := if s.wheel.loop = .faulted then [] else s.wheel.history }
        else s.wheel) ∧
      t.ret = (if d.mode = .stop ∧ s.role = some .ret then Return.reset else s.ret) ∧
      t.steer = { s.steer with
        resetPending := s.steer.resetPending || (decide (s.role = some .steer) && decide (f.offsetReset ≠ 0)) } ∧
      (∀ c, inSet t.flags c = true ↔ inSet s.flags c = true ∨
        (c = .valueClamped ∧ (3 < f.mode.toNat ∨ 1 < f.direction.toNat ∨ 999 < f.baseSpeed.toNat ∨
          f.targetX.toInt < -32000 ∨ 32000 < f.targetX.toInt ∨ f.targetY.toInt < -32000 ∨ 32000 < f.targetY.toInt ∨
          30000 < f.depth.toNat ∨ 2000 < f.rate.toNat ∨ f.densityLimit.toNat < 1100 ∨ 1500 < f.densityLimit.toNat ∨
          f.freshDensity.toNat < 1000 ∨ 1300 < f.freshDensity.toNat ∨
          (s.role = some .ret ∧ d.densityLimit < d.freshDensity + 20))) ∨
        (c = .lockLost ∧ d.mode = .stop ∧ s.role = some .wheel ∧ s.wheel.loop = .locked)) ∧
      t.outbound = (
        let fields : List Half :=
          (if 3 < f.mode.toNat then [1] else []) ++ (if 1 < f.direction.toNat then [2] else []) ++
          (if 999 < f.baseSpeed.toNat then [3] else []) ++
          (if f.targetX.toInt < -32000 ∨ 32000 < f.targetX.toInt then [4] else []) ++
          (if f.targetY.toInt < -32000 ∨ 32000 < f.targetY.toInt then [5] else []) ++
          (if 30000 < f.depth.toNat then [6] else []) ++ (if 2000 < f.rate.toNat then [7] else []) ++
          (if f.densityLimit.toNat < 1100 ∨ 1500 < f.densityLimit.toNat then [8] else []) ++
          (if s.role = some .ret ∧ d.densityLimit < d.freshDensity + 20 then [8] else []) ++
          (if f.freshDensity.toNat < 1000 ∨ 1300 < f.freshDensity.toNat then [9] else [])
        let clamped := fields.foldl (s.told s.marker.count .valueClamped) s.outbound
        if d.mode = .stop ∧ s.role = some .wheel ∧ s.wheel.loop = .locked then s.told s.marker.count .lockLost clamped 0
        else clamped) ∧
      (∀ k, k ≠ .notice .valueClamped → k ≠ .notice .lockLost →
        findKey k t.outbound.entries = findKey k s.outbound.entries) ∧
      (t.pending = s.pending ∧ t.hold = s.hold ∧ t.marker = s.marker ∧ t.ch1 = s.ch1 ∧ t.rows = s.rows ∧
        t.front = s.front ∧ t.arb = s.arb ∧ t.duty = s.duty)

/-! ### Rules of the whole station -/

/-- R80: every exit from LOCKED outside a reset latches LOCK LOST. -/
def Obligations.EveryExitFromLockedIsTold : Prop :=
  ∀ (c : Instr) (s t : State), exec c s = .next t → s.wheel.loop = .locked → t.wheel.loop ≠ .locked →
    inSet t.flags .lockLost = true ∨ t.wheel = Wheel.reset ∧ t.flags = 0

/-- R73: the applied direction switches only at a compute that finds the loop OFF, the ramped target 0 and the pair speed at
or below the stall speed P29; a reset sets it to FORWARD. -/
def Obligations.ReversalNeedsStandingPair : Prop :=
  ∀ (c : Instr) (s t : State), exec c s = .next t → t.wheel.direction ≠ s.wheel.direction → t.wheel ≠ Wheel.reset →
    c = .computePoint ∧ s.wheel.loop = .off ∧ s.wheel.ramped = 0 ∧ t.front.pairSpeed ≤ s.param 29

/-- R69, R94, R112, R129: the role states change at computes, at a DEMAND and at resets; arbitration also at marks and at
a REPORT. Every other command leaves them as they stand. -/
def Obligations.RolesStandBetweenComputes : Prop :=
  ∀ (c : Instr) (s t : State), exec c s = .next t →
    match c with
    | .powerOnReset _ | .resetRelease _ _ | .restart _ _ _ | .computePoint => True
    | .demand _ _ _ => t.arb = s.arb
    | .mark _ _ _ | .attemptSent | .attemptFailed | .report _ _ _ =>
      t.wheel = s.wheel ∧ t.steer = s.steer ∧ t.ret = s.ret
    | _ => t.wheel = s.wheel ∧ t.steer = s.steer ∧ t.ret = s.ret ∧ t.arb = s.arb

/-- R151, R156: while FROZEN no counter's value changes except by COUNT LOAD (and by power-on reset). -/
def Obligations.FrozenCountersOnlyLoaded : Prop :=
  ∀ (c : Instr) (s t : State), exec c s = .next t → s.duty.frozen = true →
    (∀ k, c ≠ .powerOnReset k) → (∀ k st, c ≠ .resetRelease k st) → (∀ a b i v, c ≠ .countLoad a b i v) →
    ∀ i : Fin 4, t.duty.counters[i].value = s.duty.counters[i].value ∧
      t.duty.counters[i].overflow = s.duty.counters[i].overflow

/-- R161, R167, R168: a parameter changes only by a SETUP telegram acted on in SETUP or CONFIG FAULT, and at power-on reset,
by POWER_ON_RESET or by RESET_RELEASE in reset, where it takes its default; so RESTART keeps the whole table. That the
defaults stand from the onset of the reset is the model's reading (log 20). -/
def Obligations.ParametersChangeBySetupAlone : Prop :=
  ∀ (c : Instr) (s t : State), exec c s = .next t → t.control.params ≠ s.control.params →
    (t.control.params = paramDefaults ∧
        ((∃ k, c = .powerOnReset k) ∨ (s.inReset = true ∧ ∃ k st, c = .resetRelease k st))) ∨
      (s.control.station.configures = true ∧ ∃ source target p value, c = .setup source target p value)

/-- R18, R19, R36: a station leaves CLASH only by RESTART or power-on reset; until then its roles, rows, parameters, counters
and outputs stand as they were. -/
def Obligations.ClashStandsUntilReset : Prop :=
  ∀ (c : Instr) (s t : State), exec c s = .next t → s.control.station = .clash → s.inReset = false →
    (∀ k, c ≠ .powerOnReset k) → (∀ a b st, c ≠ .restart a b st) →
    (∀ slot, s.line.slot = some slot → slot.entry.content.key = .notice .stationClash) →
    s.marker.periodTimer = none → s.marker.computeTimer = none →
    t.control = s.control ∧ t.wheel = s.wheel ∧ t.steer = s.steer ∧ t.ret = s.ret ∧ t.arb = s.arb ∧ t.row0 = s.row0 ∧
      t.rows = s.rows ∧ t.ch0 = s.ch0 ∧ t.ch1 = s.ch1 ∧ t.duty = s.duty ∧ t.marker = s.marker

/-- R159: a station in STRAP FAULT starts no telegram, lists nothing, takes no mark and runs no timer; only RESTART with
target 15 or a power-on reset moves it. -/
def Obligations.StrapFaultStaysSilent : Prop :=
  ∀ (c : Instr) (s t : State), exec c s = .next t → s.control.station = .strapFault → s.inReset = false →
    s.line.slot = none → s.outbound.entries = [] → s.marker.periodTimer = none → s.marker.computeTimer = none →
    (∀ k, c ≠ .powerOnReset k) → (∀ st, c ≠ .restart 0 15 st) →
    t = { s with line := t.line, front := t.front } ∧ t.line.slot = none ∧ t.outputCode0 = 0 ∧ t.outputCode1 = 0

/-- R50, R166: the mode in force is the mode held in row 0 of an ACTIVE station, HOLD for a CUT held in a LOST row, and
STOP in every other station state. -/
def Obligations.ModeInForceByStateAndRow : Prop :=
  ∀ s : State,
    (s.control.station ≠ .active → s.modeInForce = .stop) ∧
    ∀ life age d, s.control.station = .active → s.row0 = .heard life age d →
      s.modeInForce = (if d.mode = .cut ∧ life = .lost then .hold else d.mode)

/-! ### Events and the outbound list -/

/-- R10, R11: an item offered to the list creates one entry with the next age stamp and no attempts, or coalesces into the
pending entry of its key as the table states, and every other entry stands. -/
def Obligations.OfferCreatesOrCoalesces : Prop :=
  ∀ (o : Outbound) (c : Content),
    ((∀ e ∈ o.entries, e.content.key ≠ c.key) →
      (o.offer c).entries.Perm (⟨c, o.nextStamp, 0⟩ :: o.entries) ∧ (o.offer c).nextStamp = o.nextStamp + 1) ∧
    ∀ l p r, o.entries = l ++ p :: r → p.content.key = c.key → (∀ e ∈ l ++ r, e.content.key ≠ c.key) →
      ∃ q : Entry, (o.offer c) = { o with entries := l ++ q :: r } ∧ q.stamp = p.stamp ∧ q.attempts = p.attempts ∧
        match p.content, c with
        | .mark _, .mark n => q.content = .mark n
        | .report _, .report r => q.content = .report r
        | .countHalt i, .countHalt _ => q.content = .countHalt i
        | .notice urgent code repeats _ first, .notice _ _ 1 detail _ =>
          q.content = .notice urgent code (min 255 (repeats + 1)) detail first
        | .countAnswer _, .countAnswer a => q.content = .countAnswer a
        | _, _ => True

/-- R169, R171: a raise sets the code's flag and no other, and offers a NOTICE where the code is in the report mask: urgent
where it is in the urgency set, with repeat count 1, the detail, and the period count as first period. -/
def Obligations.RaiseLatchesAndOffers : Prop :=
  ∀ (s : State) (code : EventCode) (detail : Int), s.control.station.working = true →
    ∃ t, s.raise code detail = t ∧ t = { s with flags := t.flags, outbound := t.outbound } ∧
      (∀ c, inSet t.flags c = true ↔ inSet s.flags c = true ∨ c = code) ∧
      t.outbound = if inSet s.reportMask code = true then
        s.outbound.offer (.notice (inSet s.urgencySet code) code 1 (BitVec.ofInt 16 detail) s.marker.count)
        else s.outbound

/-! ### Invariants -/

/-- The invariants hold of the machine right after reset. -/
def Obligations.ResetMeetsInvariants : Prop :=
  ListInv State.reset ∧ StationInv State.reset ∧ RangeInv State.reset

/-- R8, R10, R11, R12, R14: every step keeps the outbound list in its order, with one entry for a key, distinct age stamps
and attempt counts below 3. -/
def Obligations.StepKeepsListInv : Prop :=
  ∀ s t : State, ListInv s → step s = .next t → ListInv t

/-- R10: an outbound list that keeps its invariant has at most 24 entries. -/
def Obligations.ListHasAtMost24Entries : Prop :=
  ∀ s : State, ListInv s → s.outbound.entries.length ≤ 24

/-- R19, R20, R23, R41, R149, R159, R160, R162, R168: every step keeps the station state in step with the straps, the settled
flag, the timers, the own row, the list, the freeze state and the line health. That a held part stands at its power-on values
from the onset is the model's reading (log 20), and those values carry its choices for the straps (log 2), the raw codes
(log 7), the filter levels (log 8), the failing check (log 9), the validated role (log 36) and the setup window count
(log 37). -/
def Obligations.StepKeepsStationInv : Prop :=
  ∀ s t : State, StationInv s → step s = .next t → StationInv t

/-- R34, R39, R56, R58, R59, R65, R69, R94, R112, R129, R161, R165: every step keeps every value in the range its chapter
gives, and the unused channel 1 of a WHEEL or RETURN station at 0. -/
def Obligations.StepKeepsRanges : Prop :=
  ∀ s t : State, RangeInv s → step s = .next t → RangeInv t

/-- R37, R38: the current outputs drive code 0 in reset, STARTING and STRAP FAULT; in every other state the code of the
applied value, rounded half up on an unsigned channel and half away from zero about 2047 on a WHEEL station's channel 0;
and in range every code lies between 682 and 3412. -/
def Obligations.OutputCodesInRange : Prop :=
  ∀ s : State, RangeInv s →
    (s.inReset = true ∨ s.control.station = .starting ∨ s.control.station = .strapFault →
      s.outputCode0 = 0 ∧ s.outputCode1 = 0) ∧
    (s.inReset = false → s.control.station ≠ .starting → s.control.station ≠ .strapFault →
      s.outputCode0 = (if s.role ≠ some .wheel then 682 + (s.ch0.applied * 2730 + 500) / 1000
        else if 0 ≤ s.ch0.applied then 2047 + (s.ch0.applied * 1365 + 500) / 1000
        else 2047 - (-s.ch0.applied * 1365 + 500) / 1000) ∧
      s.outputCode1 = 682 + (s.ch1.applied * 2730 + 500) / 1000 ∧
      within 682 3412 s.outputCode0 ∧ within 682 3412 s.outputCode1)

/-! ### The frame line below the commands -/

/-- R1, R3, R4, R5, R16 and the layouts of spec/01 section 1.2: every well-formed telegram command, put on the line as levels with
any header byte 3, is read back as itself, whatever stands on the line after its second check byte (log 31). -/
def Obligations.TelegramRoundTrip : Prop :=
  ∀ (c : Instr) (kind source target : Nibble) (payload : List Byte) (periodByte : Byte) (straps : Straps) (after : List Bool),
    c.wellFormed = true → onLine c = some (kind, source, target, payload) →
    (∀ a b st, c = .restart a b st → st = straps) →
    readLine straps (lineLevels (telegram kind source target periodByte payload) ++ after) = c

/-- R7, R9 on the wired line of section 1.1: where two stations start together, each driving its telegram until its first
mismatch, the wired AND of what they drive is the telegram of the lower kind, and within a kind of the lower source number,
and no other line is; the other station's attempt ends OUTBID and the winner's ends SENT. -/
def Obligations.LowerPrecedenceValueWins : Prop :=
  ∀ (k1 s1 t1 k2 s2 t2 : Nibble) (b1 b2 : Byte) (p1 p2 : List Byte), k1 < k2 ∨ (k1 = k2 ∧ s1 < s2) →
    let winner := lineLevels (telegram k1 s1 t1 b1 p1)
    let loser := lineLevels (telegram k2 s2 t2 b2 p2)
    ∀ line : List Bool, line.length = winner.length →
      (line = wiredLine (drives winner line) (drives loser line) ↔ line = winner) ∧
      (line = wiredLine (drives winner line) (drives loser line) →
        attemptOutcome (telegram k2 s2 t2 b2 p2) line = .attemptOutbid ∧
        attemptOutcome (telegram k1 s1 t1 b1 p1) line = .attemptSent)

/-! ### Measurement -/

/-- R59, R61, R62: every station's compute forms both speeds; a WHEEL station's forms the ENCODER FAULT condition and the pair
speed, and where the condition comes to hold for an input it latches ENCODER FAULT and offers its NOTICE with detail 1 or 2.
Stations of the other roles form neither. -/
def Obligations.SpeedsAndPairSpeed : Prop :=
  let speed (t : ParamTable) (ring : List Nat) (v : Int) : Prop :=
    (ring = [] → v = 0) ∧
    (ring ≠ [] → ∀ d q : Int, d = par t 10 * ring.length * par t 1 →
      q * d ≤ (ring.sum : Int) * 600000 + d / 2 → (ring.sum : Int) * 600000 + d / 2 < (q + 1) * d → v = min 999 q)
  ∀ s t : State, s.inReset = false → s.control.station.computes = true → s.marker.computeTimer.isSome = true →
    0 < s.param 10 → 0 < s.param 1 → exec .computePoint s = .next t →
    let sum1 := s.front.pulse1.ring.sum
    let sum2 := s.front.pulse2.ring.sum
    let began (i : PulseInput) : Prop := t.front.encoderFault = some i ∧ s.front.encoderFault ≠ some i
    let pending (l : Outbound) : Option Content := (findKey (.notice .encoderFault) l.entries).map Entry.content
    speed s.control.params s.front.pulse1.ring t.front.pulse1.speed ∧
    speed s.control.params s.front.pulse2.ring t.front.pulse2.speed ∧
    (s.role ≠ some .wheel → t.front.encoderFault = s.front.encoderFault ∧ t.front.pairSpeed = s.front.pairSpeed) ∧
    (s.role = some .wheel →
      (t.front.encoderFault = some .first ↔
        sum1 = 0 ∧ (50 ≤ sum2 ∨ (0 < sum2 ∧ s.front.encoderFault = some .first))) ∧
      (t.front.encoderFault = some .second ↔
        sum2 = 0 ∧ (50 ≤ sum1 ∨ (0 < sum1 ∧ s.front.encoderFault = some .second))) ∧
      t.front.pairSpeed = match t.front.encoderFault with
        | some .first => t.front.pulse2.speed
        | some .second => t.front.pulse1.speed
        | none => (t.front.pulse1.speed + t.front.pulse2.speed).tdiv 2) ∧
    (inSet t.flags .encoderFault = true ↔ inSet s.flags .encoderFault = true ∨ began .first ∨ began .second) ∧
    (began .first → pending t.outbound = pending (s.told s.marker.count .encoderFault s.outbound 1)) ∧
    (began .second → pending t.outbound = pending (s.told s.marker.count .encoderFault s.outbound 2)) ∧
    (¬ began .first → ¬ began .second → pending t.outbound = pending s.outbound)

/-- R63, R64, R65, R66: at a compute each used analog input moves by the table of R65, a good sample scaled by R64, and each
unused one stands; an input that enters FAULTED latches SENSOR FAULT. -/
def Obligations.AnalogInputsMoveByTable : Prop :=
  ∀ s t : State, s.inReset = false → s.control.station.computes = true → s.marker.computeTimer.isSome = true →
    exec .computePoint s = .next t → ∀ i : Fin 4,
      let a := s.input i
      let b := t.input i
      let used := s.role = some .steer ∨ (s.role = some .wheel ∧ i = 0) ∨ (s.role = some .ret ∧ i ≠ 3)
      let good := 614 ≤ a.raw.toNat ∧ a.raw.toNat ≤ 3583
      let range : Int × Int :=
        if s.role = some .wheel then (0, 500)
        else if s.role = some .steer then (if i = 0 ∨ i = 1 then (-20000, 20000) else (0, 1000))
        else if i = 0 then (0, 9999) else if i = 1 then (1000, 2000) else (0, 600)
      let lo := s.param (12 + 2 * i.val)
      let hi := s.param (13 + 2 * i.val)
      let product := ((a.raw.toNat : Int) - 682) * (hi - lo)
      let quotient := if 0 ≤ product then (product + 1365) / 2730 else -((-product + 1365) / 2730)
      (¬ used → b = a) ∧
      (used → good → b.status = .good ∧ b.faults = 0 ∧ b.raw = a.raw ∧
        b.lastGood = some (max range.1 (min range.2 (max (min lo hi) (min (max lo hi) (lo + quotient)))))) ∧
      (used → ¬ good → b.raw = a.raw ∧ b.lastGood = a.lastGood ∧
        match a.status with
        | .good => b.status = .held ∧ b.faults = 1
        | .unread => if a.faults < 9 then b.status = .unread ∧ b.faults = a.faults + 1 else b.status = .faulted ∧ b.faults = 10
        | .held => if a.faults < 9 then b.status = .held ∧ b.faults = a.faults + 1 else b.status = .faulted ∧ b.faults = 10
        | .faulted => b.status = .faulted ∧ b.faults = 10) ∧
      (a.status ≠ .faulted → b.status = .faulted → inSet t.flags .sensorFault = true)

/-! ### Roles -/

/-- R71, R72, R73, R74, R75: a compute of the wheel role reads row 0, the return state of the lowest usable RETURN row, the
differential in effect and the pressure of A0; it forms the effective base by mode and return state, settles the direction,
moves the ramped target toward the base by at most P27, and adds the station's share of the differential in TRACK and LOCKED
under CUT; the LEFT share minus the RIGHT share is the differential, the odd unit the RIGHT pair's. -/
def Obligations.WheelTargetFollowsBase : Prop :=
  (∀ s : State,
    let i := s.wheelInput
    (i.params = s.control.params ∧ i.mode = s.modeInForce ∧ i.pairSpeed = s.front.pairSpeed ∧
      i.pressure = (s.input 0).lastGood.getD 0 ∧ i.inEffect = s.arb.inEffect ∧ i.side = s.control.straps.side ∧
      i.now = s.marker.count) ∧
    (i.pressureValid = true ↔ (s.input 0).status = .good ∨ (s.input 0).status = .held) ∧
    (s.row0 = .never → i.demanded = none) ∧
    (∀ life age d, s.row0 = .heard life age d → i.baseSpeed = d.baseSpeed ∧ i.demanded = some d.direction) ∧
    (s.usableOf .ret = [] → i.returnState = none) ∧
    ∀ n c p, (n, c) ∈ s.usableOf .ret → (∀ q ∈ s.usableOf .ret, n ≤ q.1) → c.part = .ret p → i.returnState = some p.state) ∧
  (∀ (i : WheelInput) (w : Wheel), 0 ≤ par i.params 27 →
    let r := (wheelCompute i w).1
    let underCut : Int := match i.returnState with
      | some c =>
        if c = 2 then i.baseSpeed else if c = 3 then (i.baseSpeed * par i.params 34).tdiv 100 else 0
      | none => 0
    let base : Int := match i.mode with
      | .cut => underCut
      | .lift => if 100 < underCut then 100 else underCut
      | .hold | .stop => 0
    let wanted := i.demanded.getD w.direction
    let switches := w.ramped = 0 ∧ w.loop = .off ∧ i.pairSpeed ≤ par i.params 29
    let goal : Int := if wanted = w.direction ∨ switches then base else 0
    let half := i.inEffect.tdiv 2
    let share : Int := match i.side with
      | .zero => half
      | .one => -(i.inEffect - half)
    (r.direction = if switches then wanted else w.direction) ∧
    (w.ramped ≤ goal → r.ramped = min goal (w.ramped + par i.params 27)) ∧
    (goal ≤ w.ramped → r.ramped = max goal (w.ramped - par i.params 27)) ∧
    (r.target = if (w.loop = .track ∨ w.loop = .locked) ∧ i.mode = .cut then max 0 (min 999 (r.ramped + share))
      else r.ramped) ∧
    r.error = r.target - i.pairSpeed) ∧
  ∀ d : Int, shareOf .zero d - shareOf .one d = d ∧ shareOf .zero d = d.tdiv 2 ∧
    (shareOf .zero d).natAbs ≤ (shareOf .one d).natAbs

/-- R81, R135: the step is the gain times the error plus the old residue, divided by 256 toward zero, cut to the slew with its
own sign, and u moves by it within 0 to 1000. Where no limit is met, 256 times the move of u plus the new residue is the gain
times the error plus the old residue, so that no fraction is lost; any limit leaves the residue 0. -/
def Obligations.IntegralStepLosesNoFraction : Prop :=
  ∀ gain error slew u residue : Int, 0 ≤ slew → 0 ≤ u → u ≤ 1000 →
    let t := gain * error + residue
    let step := t.tdiv 256
    let r := integralStep gain error slew u residue
    within 0 1000 r.1 ∧ (r.1 - u).natAbs ≤ slew.natAbs ∧ r.2.natAbs < 256 ∧
      (step.natAbs ≤ slew.natAbs → within 0 1000 (u + step) → r.1 = u + step ∧ 256 * (r.1 - u) + r.2 = t) ∧
      (slew < step → r = (min 1000 (u + slew), 0)) ∧
      (step < -slew → r = (max 0 (u - slew), 0)) ∧
      (step.natAbs ≤ slew.natAbs → u + step < 0 → r = (0, 0)) ∧
      (step.natAbs ≤ slew.natAbs → 1000 < u + step → r = (1000, 0))

/-- R76 to R80, R82 to R88: one compute of the wheel loop, by the loop state it starts from: the jam sequence, the detection of a
jam at the P30th jam count, the start from OFF, the windows of ACQUIRE, TRACK and LOCKED at a ramped target above 0 with one
integral step of the gain of the state reached, and the wind-down at a ramped target of 0; the drive output of the state
reached; and LOCK GAINED, LOCK LOST, WHEEL JAM and WHEEL FAULTED with their details. The model's
readings in it: a jam count of 0 after wind-down to OFF from every running state (log 21), counts that reach a limit at or
above it (log 23), and R79 before a jam, against the worked case of section 5.6 (log 27). -/
def Obligations.WheelLoopFollowsTable : Prop :=
  ∀ (i : WheelInput) (w : Wheel),
    let r := (wheelCompute i w).1
    let raises := (wheelCompute i w).2
    let e : Int := r.error.natAbs
    let kept := w.history.filter fun p => (i.now - p).toNat < parN i.params 33
    let hit := par i.params 28 ≤ i.pressure ∧ i.pairSpeed ≤ par i.params 29
    let jam := if i.pressureValid = true then (if hit then w.jamCount + 1 else 0) else w.jamCount
    let jammed := i.pressureValid = true ∧ hit ∧ parN i.params 30 ≤ jam
    let signed (v : Int) : Int := if r.direction = .forward then v else -v
    let acquiresFromRest := r.loop = .acquire ∧ r.acquireCount = 0 ∧ r.jamCount = 0 ∧ r.drive = signed r.u ∧
      (r.u, r.residue) = integralStep (par i.params 20) r.error (par i.params 26) 0 0
    (w.loop = .off → raises = [] ∧ r.history = kept ∧
      (0 < r.target → 0 < r.ramped → acquiresFromRest) ∧ (r.target ≤ 0 → r.loop = .off ∧ r.drive = 0)) ∧
    (w.loop = .stalled → raises = [] ∧ r.history = kept ∧
      (w.stallCount = 5 → r.loop = .backoff ∧ r.backoffCount = 1 ∧ r.drive = signed (-(par i.params 31))) ∧
      (w.stallCount ≠ 5 → r.loop = .stalled ∧ r.stallCount = w.stallCount + 1 ∧ r.drive = 0)) ∧
    (w.loop = .backoff → raises = [] ∧ r.history = kept ∧
      (w.backoffCount = parN i.params 32 → 0 < r.ramped → acquiresFromRest) ∧
      (w.backoffCount = parN i.params 32 → r.ramped ≤ 0 → r.loop = .off ∧ r.drive = 0) ∧
      (w.backoffCount ≠ parN i.params 32 →
        r.loop = .backoff ∧ r.backoffCount = w.backoffCount + 1 ∧ r.drive = signed (-(par i.params 31)))) ∧
    (w.loop = .faulted → raises = [] ∧ r.drive = 0 ∧
      (i.mode = .hold ∨ i.mode = .stop → r.loop = .off ∧ r.history = []) ∧
      (i.mode = .cut ∨ i.mode = .lift → r.loop = .faulted ∧ r.history = kept)) ∧
    (w.loop.driving = true → jammed →
      r.history = kept ++ [i.now] ∧ r.u = 0 ∧ r.residue = 0 ∧ r.drive = 0 ∧ r.jamCount = 0 ∧
      (kept.length < 2 → r.loop = .stalled ∧ r.stallCount = 1 ∧
        raises = (if w.loop = .locked then [(EventCode.lockLost, 4)] else []) ++ [(EventCode.wheelJam, i.pressure)]) ∧
      (2 ≤ kept.length → r.loop = .faulted ∧
        raises = (if w.loop = .locked then [(EventCode.lockLost, 6)] else []) ++
          [(EventCode.wheelFaulted, ((kept.length + 1 : Nat) : Int))])) ∧
    (w.loop.driving = true → ¬ jammed → r.ramped ≤ 0 →
      r.history = kept ∧ r.u = max 0 (w.u - par i.params 26) ∧ r.residue = 0 ∧ r.acquireCount = 0 ∧ r.lockCount = 0 ∧
      r.exitCount = 0 ∧
      (r.u = 0 → r.loop = .off ∧ r.jamCount = 0 ∧ r.drive = 0 ∧
        raises = if w.loop = .locked then [(EventCode.lockLost, 0)] else []) ∧
      (r.u ≠ 0 → r.loop = w.loop ∧ r.jamCount = jam ∧ r.drive = signed r.u ∧ raises = [])) ∧
    (w.loop.driving = true → ¬ jammed → 0 < r.ramped →
      let acquires := if e ≤ par i.params 22 then w.acquireCount + 1 else 0
      let locks := if e ≤ par i.params 23 then w.lockCount + 1 else 0
      let exits := if par i.params 23 < e then w.exitCount + 1 else 0
      let far := 2 * par i.params 22 < e
      r.history = kept ∧ r.jamCount = jam ∧ r.drive = signed r.u ∧
      (r.u, r.residue) = integralStep (if r.loop = .acquire then par i.params 20 else par i.params 21) r.error
        (par i.params 26) w.u w.residue ∧
      (w.loop = .acquire → raises = [] ∧ r.acquireCount = acquires ∧
        (parN i.params 24 ≤ acquires → r.loop = .track ∧ r.lockCount = 0) ∧
        (acquires < parN i.params 24 → r.loop = .acquire)) ∧
      (w.loop = .track → far → raises = [] ∧ r.loop = .acquire ∧ r.acquireCount = 0) ∧
      (w.loop = .track → ¬ far → r.lockCount = locks ∧
        (parN i.params 25 ≤ locks → r.loop = .locked ∧ r.exitCount = 0 ∧ raises = [(EventCode.lockGained, i.pairSpeed)]) ∧
        (locks < parN i.params 25 → r.loop = .track ∧ raises = [])) ∧
      (w.loop = .locked → far → raises = [(EventCode.lockLost, 1)] ∧ r.loop = .acquire ∧ r.acquireCount = 0) ∧
      (w.loop = .locked → ¬ far → r.exitCount = exits ∧
        (2 ≤ exits → r.loop = .track ∧ r.lockCount = 0 ∧ raises = [(EventCode.lockLost, 2)]) ∧
        (exits < 2 → r.loop = .locked ∧ raises = [])))

/-- R49, R95, R96, R97, R109: arbitration reads the usable WHEEL and STEER rows in ascending station number. A usable WHEEL row
of the own side is the same-side condition, and where it comes to hold STATION CLASH is raised with 256 plus the lowest such
row's number; the station is then lone. The partner is else the lowest row; without one the station is lone, and else the
lower number leads. A follower stands as it stood, its starve and relief counts 0 where it joins or changes its leader. Of two
WHEEL stations that take one another as partners exactly one leads and the other follows it. -/
def Obligations.PartnersChooseOneLeader : Prop :=
  (∀ (s : State) (role : Role),
    ((s.usableOf role).Pairwise fun p q => p.1 < q.1) ∧
    ∀ n c, (n, c) ∈ s.usableOf role ↔ 1 ≤ n ∧ n ≤ 14 ∧ c.role = role ∧ c.part ≠ .none ∧
      (c.station = .ready ∨ c.station = .active) ∧ ∃ life age, s.row n = .heard life age c ∧ life ≠ .lost) ∧
  (∀ s : State,
    let i := s.arbInput
    (i.params = s.control.params ∧ i.mode = s.modeInForce ∧ i.number = s.number.toNat ∧ i.side = s.control.straps.side ∧
      i.wheels = s.usableOf .wheel ∧ i.steers = s.usableOf .steer ∧ i.pressure = (s.input 0).lastGood.getD 0) ∧
    (i.pressureValid = true ↔ (s.input 0).status = .good ∨ (s.input 0).status = .held) ∧
    ∀ life age d, s.row0 = .heard life age d → i.targetX = d.targetX) ∧
  (∀ (i : ArbInput) (a : Arbitration), (i.wheels.Pairwise fun p q => p.1 < q.1) →
    let b := (arbCompute i a).1
    let raises := (arbCompute i a).2
    let own (q : Nat × PeerContent) : Prop := q ∈ i.wheels ∧ q.2.side = i.side
    (b.sameSide = true ↔ ∃ q, own q) ∧ (a.sameSide = true ∨ (∀ q, ¬ own q) → raises = []) ∧
    (∀ q, own q → (∀ r, own r → q.1 ≤ r.1) → a.sameSide = false → raises = [(.stationClash, 256 + (q.1 : Int))]) ∧
    (∀ p, partnerRow i = some p ↔ p ∈ i.wheels ∧ ∀ q ∈ i.wheels, q.2.side ≠ i.side ∧ p.1 ≤ q.1) ∧
    (partnerRow i = none → b.standing = .lone ∧ b.leader = none) ∧
    (∀ p, partnerRow i = some p →
      (i.number < p.1 → b.standing = .leader ∧ b.leader = none) ∧
      (p.1 < i.number → b.standing = .follower ∧ b.leader = some p.1)) ∧
    (b.standing = .follower →
      b = { a with standing := .follower, leader := b.leader, sameSide := false, starve := b.starve, relief := b.relief } ∧
      (a.standing = .follower → a.leader = b.leader → b.starve = a.starve ∧ b.relief = a.relief) ∧
      (a.standing ≠ .follower ∨ a.leader ≠ b.leader → b.starve = 0 ∧ b.relief = 0))) ∧
  ∀ (i j : ArbInput) (a b : Arbitration) (c d : PeerContent), partnerRow i = some (j.number, c) →
    partnerRow j = some (i.number, d) → i.number < j.number →
    (arbCompute i a).1.standing = .leader ∧ (arbCompute j b).1.standing = .follower ∧
      (arbCompute j b).1.leader = some i.number

/-- R98, R103, R104, R105: a lone or non-CUT station's target is 0 under BALANCE; a leader's is the steer target in STEER and
else the balance target, 0 where a pressure is not known; every target lies within P42. The differential next moves from the
differential in effect toward the target by at most P43 and never past it; a follower's stands. -/
def Obligations.DifferentialMovesBySlew : Prop :=
  ∀ (i : ArbInput) (a : Arbitration), 0 ≤ par i.params 42 → 0 ≤ par i.params 43 →
    let b := (arbCompute i a).1
    let limited (v : Int) : Int := max (-(par i.params 42)) (min (par i.params 42) v)
    b.inEffect = a.inEffect ∧ (b.standing = .follower → b.next = a.next ∧ b.target = a.target ∧ b.mode = a.mode) ∧
    (b.standing ≠ .follower →
      within (-(par i.params 42)) (par i.params 42) b.target ∧ (b.next - a.inEffect).natAbs ≤ (par i.params 43).natAbs ∧
      (b.next - a.inEffect).natAbs + (b.target - b.next).natAbs = (b.target - a.inEffect).natAbs ∧
      ((b.target - a.inEffect).natAbs ≤ (par i.params 43).natAbs → b.next = b.target) ∧
      ((par i.params 43).natAbs ≤ (b.target - a.inEffect).natAbs →
        (b.next - a.inEffect).natAbs = (par i.params 43).natAbs) ∧
      (within (-(par i.params 42)) (par i.params 42) a.inEffect → within (-(par i.params 42)) (par i.params 42) b.next)) ∧
    (b.standing = .lone ∨ (b.standing = .leader ∧ i.mode ≠ .cut) →
      b.mode = .balance ∧ b.starve = 0 ∧ b.relief = 0 ∧ b.target = 0) ∧
    (b.standing = .leader → i.mode = .cut → i.steers = [] → b.mode = .balance ∧ b.starve = 0 ∧ b.relief = 0) ∧
    (b.standing = .leader → i.mode = .cut → b.mode = .steer →
      b.target = limited ((par i.params 40 * steerError i).tdiv 16)) ∧
    ∀ n c p, partnerRow i = some (n, c) → c.part = .wheel p → b.standing = .leader → i.mode = .cut → b.mode ≠ .steer →
      let other : Int := p.pressure.toNat
      let difference : Int := match i.side with
        | .zero => other - i.pressure
        | .one => i.pressure - other
      b.target = if i.pressureValid = true ∧ inSet c.flags .sensorFault = false then
          limited ((par i.params 41 * difference).tdiv 16) else 0

/-- R97, R99, R100, R101, R102: at a compute of a leader under CUT with a usable STEER row, its mode moves between BALANCE,
STEER and RELIEF on the steer error, the target offset minus the mean of the one or two faces' offsets, against the marks P35
and P36, the relief length P39 and the starve limit P38, whose count rises while the two pressures lie P37 or more apart and
stands while one of them is not known. A takeover from follower starts from the adopted mode with both counts 0. That a relief
count ends RELIEF at or above P39 is the model's reading (log 23). -/
def Obligations.ArbitrationModesFollowMarks : Prop :=
  (∀ i : ArbInput,
    let offset (q : Nat × PeerContent) : Int := match q.2.part with
      | .steer p => p.offX.toInt
      | _ => 0
    steerError i = match i.steers.find? (fun q => q.2.side == .zero), i.steers.find? (fun q => q.2.side == .one) with
      | some p, some q => i.targetX - (offset p + offset q).tdiv 2
      | some p, none => i.targetX - offset p
      | none, some q => i.targetX - offset q
      | none, none => i.targetX) ∧
  ∀ (i : ArbInput) (a : Arbitration) n c p, partnerRow i = some (n, c) → c.part = .wheel p → i.number < n →
    i.mode = .cut → i.steers ≠ [] →
    let b := (arbCompute i a).1
    let e : Int := (steerError i).natAbs
    let starve := if a.standing = .follower then 0 else a.starve
    let relief := if a.standing = .follower then 0 else a.relief
    let count :=
      if i.pressureValid = true ∧ inSet c.flags .sensorFault = false then
        (if par i.params 37 ≤ (i.pressure - (p.pressure.toNat : Int)).natAbs then starve + 1 else 0)
      else starve
    (a.mode = .balance →
      (par i.params 35 ≤ e → b.mode = .steer ∧ b.starve = 0 ∧ b.relief = relief) ∧
      (e < par i.params 35 → b.mode = .balance ∧ b.starve = starve ∧ b.relief = relief)) ∧
    (a.mode = .steer → starve < parN i.params 38 →
      (e ≤ par i.params 36 → b.mode = .balance ∧ b.starve = 0 ∧ b.relief = relief) ∧
      (par i.params 36 < e →
        (count = parN i.params 38 → b.mode = .relief ∧ b.starve = 0 ∧ b.relief = 0) ∧
        (count ≠ parN i.params 38 → b.mode = .steer ∧ b.starve = count ∧ b.relief = relief))) ∧
    (a.mode = .relief →
      (relief + 1 < parN i.params 39 → b.mode = .relief ∧ b.relief = relief + 1 ∧ b.starve = starve) ∧
      (parN i.params 39 ≤ relief + 1 → b.relief = 0 ∧ (par i.params 36 < e → b.mode = .steer ∧ b.starve = 0) ∧
        (e ≤ par i.params 36 → b.mode = .balance)))

/-- R113, R118, R119, R120, R121, R122: at a compute of the steering role a pending offset reset is acted on first, whatever the
mode, and an offset reset period 64 periods old or older becomes none. Under CUT a compute that decides PAIRED then averages
its offsets with its peer's toward zero, held back while the offset reset period is later than the peer's sample period; the
depth reference becomes the depth; DEPTH JUMP is told for a step above P50 alone; a step from 0 to P50 outside BLIND is
integrated with the used tilt, a thousandth part and its residue, and an offset that would pass 32000 stands at it with residue
0. Under any other mode nothing of this happens. -/
def Obligations.DepthStepIntegrates : Prop :=
  ∀ (i : SteerInput) (w : Steer), 0 ≤ par i.params 50 → within (-32000) 32000 w.offX → within (-32000) 32000 w.offY →
    (∀ c p, i.peer = some c → c.part = .steer p →
      within (-32000) 32000 p.offX.toInt ∧ within (-32000) 32000 p.offY.toInt) →
    let r := (steerCompute i w).1
    let jumps := (steerCompute i w).2.filter fun x => x.1 == .depthJump
    let kept (v : Int) : Int := if w.resetPending = true then 0 else v
    let reference : Option Int := if w.resetPending = true then none else w.depthRef
    let period : Option Half :=
      match if w.resetPending = true then some i.now else w.resetPeriod with
      | some p => if 64 ≤ (i.now - p).toNat then none else some p
      | none => none
    r.resetPending = false ∧
    (i.mode ≠ .cut → jumps = [] ∧ r.depthRef = reference ∧ r.resetPeriod = period ∧ r.offX = kept w.offX ∧
      r.offY = kept w.offY ∧ r.resX = kept w.resX ∧ r.resY = kept w.resY) ∧
    (i.mode = .cut →
      let averaged : Int × Int × Option Half :=
        match r.fusion, i.peer.map fun c => (c.sample, c.part) with
        | Fusion.paired, some (sample, RolePart.steer p) =>
          let mean := ((kept w.offX + p.offX.toInt).tdiv 2, (kept w.offY + p.offY.toInt).tdiv 2, none)
          match period with
          | some q => if (sample - q).toNat < 32768 then mean else (kept w.offX, kept w.offY, period)
          | none => mean
        | _, _ => (kept w.offX, kept w.offY, period)
      let axis (tilt step offset residue : Int) : Int × Int :=
        let p := tilt * step + residue
        let sum := offset + p.tdiv 1000
        if 32000 < sum then (32000, 0) else if sum < -32000 then (-32000, 0) else (sum, p - 1000 * p.tdiv 1000)
      r.depthRef = some i.depth ∧ r.resetPeriod = averaged.2.2 ∧
      (jumps = match reference with
        | some d => if par i.params 50 < i.depth - d then [(.depthJump, i.depth - d)] else []
        | none => []) ∧
      ((∀ d, reference = some d → i.depth < d ∨ par i.params 50 < i.depth - d ∨ r.fusion = .blind) →
        (r.offX, r.resX) = (averaged.1, kept w.resX) ∧ (r.offY, r.resY) = (averaged.2.1, kept w.resY)) ∧
      ∀ d, reference = some d → d ≤ i.depth → i.depth - d ≤ par i.params 50 → r.fusion ≠ .blind →
        (r.offX, r.resX) = axis r.usedX (i.depth - d) averaged.1 (kept w.resX) ∧
        (r.offY, r.resY) = axis r.usedY (i.depth - d) averaged.2.1 (kept w.resY))

/-- R113, R114, R115, R116, R117: the steering role reads its four inputs, the applied values of its channels, row 0 and its peer
row, the lowest usable STEER row of the opposite face, whose tilt is sound without SENSOR FAULT and in PAIRED, SINGLE or
DISAGREE. Whatever the mode, a compute decides the fusion state by own and peer's tilt, with the used tilt of SINGLE, DISAGREE
and BLIND; PAIRED takes the mean toward zero and BORROWED the peer's, where the peer's report keeps the range of a tilt (log
11). TILT DISAGREE is told at a compute that enters DISAGREE, with 1 for x, 2 for y or 3 for both, and at no other. -/
def Obligations.FusionFollowsTable : Prop :=
  (∀ s : State,
    let i := s.steerInput
    let valid (k : Fin 4) : Prop := (s.input k).status = .good ∨ (s.input k).status = .held
    let opposite (n : Nat) (c : PeerContent) : Prop := (n, c) ∈ s.usableOf .steer ∧ c.side ≠ s.control.straps.side
    (i.params = s.control.params ∧ i.mode = s.modeInForce ∧ i.side = s.control.straps.side ∧
      i.tiltX = (s.input 0).lastGood.getD 0 ∧ i.tiltY = (s.input 1).lastGood.getD 0 ∧
      i.posL = (s.input 2).lastGood.getD 0 ∧ i.posR = (s.input 3).lastGood.getD 0 ∧
      i.appliedL = s.ch0.applied ∧ i.appliedR = s.ch1.applied ∧ i.now = s.marker.count) ∧
    (i.active = true ↔ s.control.station = .active) ∧ (i.tiltValid = true ↔ valid 0 ∧ valid 1) ∧
    (i.posLValid = true ↔ valid 2) ∧ (i.posRValid = true ↔ valid 3) ∧
    (∀ life age d, s.row0 = .heard life age d → i.targetX = d.targetX ∧ i.targetY = d.targetY ∧ i.depth = d.depth) ∧
    ((∀ n c, ¬ opposite n c) → i.peer = none) ∧
    ∀ n c, opposite n c → (∀ m d, opposite m d → n ≤ m) → i.peer = some c) ∧
  ∀ (i : SteerInput) (w : Steer),
    let r := (steerCompute i w).1
    let told := (steerCompute i w).2.filter fun x => x.1 == .tiltDisagree
    let sound (p : SteerPart) : Prop := ∃ c, i.peer = some c ∧ c.part = .steer p ∧ inSet c.flags .sensorFault = false ∧
      (p.fusion = 0 ∨ p.fusion = 1 ∨ p.fusion = 2)
    ((∀ p, ¬ sound p) → told = [] ∧
      (r.fusion, r.usedX, r.usedY) =
        if i.tiltValid = true then (.single, i.tiltX, i.tiltY) else (.blind, w.usedX, w.usedY)) ∧
    ∀ p, sound p →
      let x : Int := if par i.params 49 < (i.tiltX - p.tiltX.toInt).natAbs then 1 else 0
      let y : Int := if par i.params 49 < (i.tiltY - p.tiltY.toInt).natAbs then 2 else 0
      (r.fusion = if i.tiltValid = true then (if x + y = 0 then .paired else .disagree) else .borrowed) ∧
      (told = if r.fusion = .disagree ∧ w.fusion ≠ .disagree then [(.tiltDisagree, x + y)] else []) ∧
      (r.fusion = .disagree → r.usedX = i.tiltX ∧ r.usedY = i.tiltY) ∧
      (within (-20000) 20000 p.tiltX.toInt → within (-20000) 20000 p.tiltY.toInt → within (-20000) 20000 i.tiltX →
        within (-20000) 20000 i.tiltY →
        (r.fusion = .paired → r.usedX = (i.tiltX + p.tiltX.toInt).tdiv 2 ∧ r.usedY = (i.tiltY + p.tiltY.toInt).tdiv 2) ∧
        (r.fusion = .borrowed → r.usedX = p.tiltX.toInt ∧ r.usedY = p.tiltY.toInt))

/-- R122, R123, R124, R125: at a compute of a STEER station a pending offset reset is acted on; a flap with a valid position is
tested against its applied demand by P51, and its stuck condition comes to hold at the P52th count, with FLAP STUCK and the
flap's number told, and ends with the first test that passes; the flap demands are those of R123 under CUT in ACTIVE, 0 in
READY and under LIFT, the applied values under HOLD and STOP, and a stuck flap's is its applied value in every mode. -/
def Obligations.FlapDemandsByMode : Prop :=
  ∀ s t : State, s.inReset = false → s.control.station.computes = true → s.marker.computeTimer.isSome = true →
    s.role = some .steer → exec .computePoint s = .next t →
    let tested (i : Fin 4) (applied : Int) (count count' : Nat) (stuck stuck' : Bool) : Prop :=
      let valid := (t.input i).status = .good ∨ (t.input i).status = .held
      let off := s.param 51 < (applied - (t.input i).lastGood.getD 0).natAbs
      (¬ valid → count' = count ∧ stuck' = stuck) ∧
      (valid → ¬ off → count' = 0 ∧ stuck' = false) ∧
      (valid → off → count' = min (parN s.control.params 52) (count + 1) ∧
        (stuck' = true ↔ stuck = true ∨ parN s.control.params 52 ≤ count + 1))
    let beganL := s.steer.stuckL = false ∧ t.steer.stuckL = true
    let beganR := s.steer.stuckR = false ∧ t.steer.stuckR = true
    let pending (l : Outbound) : Option Content := (findKey (.notice .flapStuck) l.entries).map Entry.content
    let limited (v : Int) : Int := max 0 (min 1000 v)
    let half (offsetGain tiltGain : Nat) (error used : Int) : Int :=
      (max (-1000) (min 1000 ((s.param offsetGain * error - s.param tiltGain * used).tdiv 64))).tdiv 2
    tested 2 s.ch0.applied s.steer.stuckCountL t.steer.stuckCountL s.steer.stuckL t.steer.stuckL ∧
    tested 3 s.ch1.applied s.steer.stuckCountR t.steer.stuckCountR s.steer.stuckR t.steer.stuckR ∧
    (inSet t.flags .flapStuck = true ↔ inSet s.flags .flapStuck = true ∨ beganL ∨ beganR) ∧
    (beganL → ¬ beganR → pending t.outbound = pending (s.told s.marker.count .flapStuck s.outbound 0)) ∧
    (beganR → ¬ beganL → pending t.outbound = pending (s.told s.marker.count .flapStuck s.outbound 1)) ∧
    (¬ beganL → ¬ beganR → pending t.outbound = pending s.outbound) ∧
    (t.steer.stuckL = true → t.steer.flapL = s.ch0.applied) ∧ (t.steer.stuckR = true → t.steer.flapR = s.ch1.applied) ∧
    (s.control.station = .ready ∨ s.modeInForce = .lift → (t.steer.stuckL = false → t.steer.flapL = 0) ∧
      (t.steer.stuckR = false → t.steer.flapR = 0)) ∧
    (s.control.station = .active → s.modeInForce = .hold ∨ s.modeInForce = .stop →
      t.steer.flapL = s.ch0.applied ∧ t.steer.flapR = s.ch1.applied) ∧
    (∀ life age d, s.modeInForce = .cut → s.row0 = .heard life age d →
      let hx := half 44 46 (d.targetX - t.steer.offX) t.steer.usedX
      let hy := half 45 47 (d.targetY - t.steer.offY) t.steer.usedY
      let lean := match s.control.straps.side with
        | .zero => -hy
        | .one => hy
      (t.steer.stuckL = false → t.steer.flapL = limited (s.param 48 + lean + hx)) ∧
      (t.steer.stuckR = false → t.steer.flapR = limited (s.param 48 + lean - hx))) ∧
    t.steer.resetPending = false ∧
    (s.steer.resetPending = true → s.modeInForce ≠ .cut →
      t.steer.offX = 0 ∧ t.steer.offY = 0 ∧ t.steer.resX = 0 ∧ t.steer.resY = 0 ∧ t.steer.depthRef = none ∧
        t.steer.resetPeriod = some s.marker.count)

/-- R132: the required flow is the numerator A × v × 6 × (ρs − ρf) divided by 100000 × (ρlim − ρf), rounded up, and at most
65535. -/
def Obligations.RequiredFlowRoundsUp : Prop :=
  ∀ i : ReturnInput, 0 ≤ par i.params 53 → 0 ≤ i.rate → i.freshDensity ≤ par i.params 54 →
    let limit := if i.densityLimit < i.freshDensity + 20 then i.freshDensity + 20 else i.densityLimit
    let n := par i.params 53 * i.rate * 6 * (par i.params 54 - i.freshDensity)
    let d := 100000 * (limit - i.freshDensity)
    let q := requiredFlow i
    0 < d ∧ q ≤ 65535 ∧ (n ≤ 65535 * d → n ≤ q * d ∧ (q - 1) * d < n) ∧ (65535 * d < n → q = 65535)

/-- R131, R133 to R143: the return reads flow, density and suction pressure on A0 to A2 and the rate and the two densities of row
0. One compute of it, by the state it starts from: the density trim, the uncapped demand and the running target; IDLE under
STOP and PRIMING out of IDLE; the prime, blocked, limited exit and clear runs with the transitions they make and RETURN LIMITED
and RETURN BLOCKED with their details; the cavitation condition with CAVITATION; the flow target; and the pump output, falling
by 5 while cavitating and held on an invalid flow. That the prime count stands at P60, and that a run ends at or above its
limit, is the model's reading (log 23). -/
def Obligations.ReturnFollowsTable : Prop :=
  (∀ s : State,
    let i := s.returnInput
    let valid (k : Fin 4) : Prop := (s.input k).status = .good ∨ (s.input k).status = .held
    (i.params = s.control.params ∧ i.mode = s.modeInForce ∧ i.flow = (s.input 0).lastGood.getD 0 ∧
      i.density = (s.input 1).lastGood.getD 0 ∧ i.suction = (s.input 2).lastGood.getD 0) ∧
    (i.flowValid = true ↔ valid 0) ∧ (i.densityValid = true ↔ valid 1) ∧ (i.suctionValid = true ↔ valid 2) ∧
    ∀ life age d, s.row0 = .heard life age d →
      i.rate = d.rate ∧ i.densityLimit = d.densityLimit ∧ i.freshDensity = d.freshDensity) ∧
  ∀ (i : ReturnInput) (w : Return), 0 ≤ par i.params 55 → par i.params 55 ≤ par i.params 56 →
    par i.params 56 ≤ 9999 → 0 ≤ par i.params 59 → 0 ≤ w.trim →
    let r := (returnCompute i w).1
    let raises := (returnCompute i w).2
    let limit : Int := if i.densityLimit < i.freshDensity + 20 then i.freshDensity + 20 else i.densityLimit
    let moves := i.mode = .cut ∧ (w.state = .running ∨ w.state = .limited ∨ w.state = .blocked) ∧ i.densityValid = true
    let trim : Int := if moves ∧ limit < i.density then min (w.trim + 10) (par i.params 56)
      else if moves ∧ i.density ≤ limit - 10 then max 0 (w.trim - 1) else w.trim
    let demand : Int := if i.mode = .cut then min 65535 (max (requiredFlow i) (par i.params 55) + trim) else par i.params 55
    let goal : Int := min demand (par i.params 56)
    let began := r.cavitating = true ∧ (w.cavitating = false ∨ w.state = .idle)
    let told (l : List Raise) : Prop := raises = l ++ if began then [(EventCode.cavitation, i.suction)] else []
    let runs := (r.primeCount, r.primeRun, r.limitedExit, r.blockedRun, r.clearRun)
    (i.mode = .stop → raises = [] ∧ r = Return.reset) ∧
    (i.mode ≠ .stop → r.trim = (if w.state = .idle then 0 else trim) ∧
      within (par i.params 55) (par i.params 56) r.flowTarget ∧
      r.flowTarget = (if r.state = .priming then par i.params 55 else goal)) ∧
    (i.mode ≠ .stop → w.state = .idle → told [] ∧ r.state = .priming ∧ runs = (1, 0, 0, 0, 0)) ∧
    (i.mode ≠ .stop → w.state ≠ .idle → i.flowValid = false → told [] ∧ r.state = w.state ∧
      runs = (w.primeCount, w.primeRun, w.limitedExit, w.blockedRun, w.clearRun)) ∧
    (i.mode ≠ .stop → w.state = .priming → i.flowValid = true →
      let run := if par i.params 55 * 8 ≤ i.flow * 10 then w.primeRun + 1 else 0
      r.primeRun = run ∧ r.primeCount = min (parN i.params 60) (w.primeCount + 1) ∧
      (5 ≤ run → told [] ∧ r.state = .running ∧ r.limitedExit = 0 ∧ r.blockedRun = 0) ∧
      (run < 5 → parN i.params 60 ≤ w.primeCount + 1 →
        told [(EventCode.returnBlocked, i.flow)] ∧ r.state = .blocked ∧ r.clearRun = 0) ∧
      (run < 5 → w.primeCount + 1 < parN i.params 60 → told [] ∧ r.state = .priming)) ∧
    (i.mode ≠ .stop → w.state = .running ∨ w.state = .limited → i.flowValid = true →
      let run := if 900 ≤ w.u ∧ i.flow * 5 ≤ goal then w.blockedRun + 1 else 0
      let exit := if demand ≤ par i.params 56 then w.limitedExit + 1 else 0
      r.blockedRun = run ∧
      (parN i.params 61 ≤ run → told [(EventCode.returnBlocked, i.flow)] ∧ r.state = .blocked ∧ r.clearRun = 0) ∧
      (run < parN i.params 61 → w.state = .running → par i.params 56 < demand →
        told [(EventCode.returnLimited, demand)] ∧ r.state = .limited ∧ r.limitedExit = 0) ∧
      (run < parN i.params 61 → w.state = .running → demand ≤ par i.params 56 → told [] ∧ r.state = .running) ∧
      (run < parN i.params 61 → w.state = .limited → told [] ∧ r.limitedExit = exit ∧
        r.state = if 10 ≤ exit then .running else .limited)) ∧
    (i.mode ≠ .stop → w.state = .blocked → i.flowValid = true →
      let run := if goal ≤ i.flow * 2 then w.clearRun + 1 else 0
      told [] ∧ r.clearRun = run ∧ (run < 10 → r.state = .blocked) ∧
      (10 ≤ run → r.state = .running ∧ r.limitedExit = 0 ∧ r.blockedRun = 0)) ∧
    (i.mode ≠ .stop →
      let before := w.cavitating && w.state != .idle
      r.cavitating = (if i.suctionValid = false then before
        else if i.suction < par i.params 58 then true
        else if par i.params 58 + par i.params 59 ≤ i.suction then false else before)) ∧
    (i.mode ≠ .stop →
      let u := if w.state = .idle then 0 else w.u
      let residue := if w.state = .idle then 0 else w.residue
      (r.u, r.residue) = if r.cavitating = true then (max 0 (u - 5), 0)
        else if i.flowValid = false then (u, residue)
        else integralStep (par i.params 57) (r.flowTarget - i.flow) (par i.params 26) u residue)

/-! ### Duty counters -/

/-- R150, R151, R152: at a compute while RUNNING each counter with a source reads it by the table, counts by its condition and
options, and wraps at 4294967295 with its overflow flag set; a wrap with halt-on-overflow and the flag clear before offers a
COUNT HALT of the counter's index, which a pending one keeps out, and of two at one compute the lower index stands. -/
def Obligations.CountersAtCompute : Prop :=
  ∀ s t : State, s.inReset = false → s.control.station.computes = true → s.marker.computeTimer.isSome = true →
    s.duty.frozen = false → exec .computePoint s = .next t →
    let stale : Nat :=
      (match t.row0 with | .heard .stale _ _ | .heard .lost _ _ => 1 | .never | .heard .fresh _ _ => 0) +
      ((List.range 14).map fun n =>
        match t.row (n + 1) with | .heard .stale _ _ | .heard .lost _ _ => 1 | .never | .heard .fresh _ _ => 0).sum
    let analog (i : Fin 4) : Int := (t.input i).lastGood.getD 0
    let reading (source : Int) : Int :=
      match s.role, source with
      | some .wheel, 1 => analog 0
      | some .wheel, 2 => t.front.pairSpeed
      | some .wheel, 3 => if t.wheel.loop = .locked then 0 else 1
      | some .wheel, 4 => if t.arb.mode = .steer then 1 else 0
      | some .steer, 5 => t.steer.usedX.natAbs
      | some .steer, 6 => t.steer.usedY.natAbs
      | some .steer, 7 => t.steer.offX.natAbs
      | some .steer, 8 => t.steer.offY.natAbs
      | some .ret, 9 => analog 1
      | some .ret, 10 => analog 0
      | some .ret, 11 => analog 2
      | some .ret, 12 => if t.ret.state = .running then 0 else 1
      | _, 13 => if t.modeInForce = .cut then 1 else 0
      | _, 14 => stale
      | _, 15 => t.ch0.applied.natAbs
      | _, _ => 0
    let source (i : Fin 4) : Int := s.param (62 + 3 * i.val)
    let option (i : Fin 4) (bit : Nat) : Bool := (parN s.control.params (64 + 3 * i.val)).testBit bit
    let condition (i : Fin 4) : Bool :=
      if option i 0 = true then decide (reading (source i) < s.param (63 + 3 * i.val))
      else decide (s.param (63 + 3 * i.val) ≤ reading (source i))
    let counts (i : Fin 4) : Bool := condition i && !(option i 1 && s.duty.counters[i].previous)
    let halts (i : Fin 4) : Bool :=
      source i != 0 && counts i && s.duty.counters[i].value == 4294967295 && !s.duty.counters[i].overflow && option i 2
    let pending (l : Outbound) : Option Content := (findKey .countHalt l.entries).map Entry.content
    (∀ i : Fin 4,
      let before := s.duty.counters[i]
      (source i = 0 → t.duty.counters[i] = before) ∧
      (source i ≠ 0 → t.duty.counters[i] =
        ⟨if counts i = true then before.value + 1 else before.value,
         before.overflow || (counts i && before.value == 4294967295), condition i⟩)) ∧
    (pending s.outbound ≠ none → pending t.outbound = pending s.outbound) ∧
    (pending s.outbound = none → pending t.outbound =
      (([0, 1, 2, 3] : List (Fin 4)).find? halts).map fun i => .countHalt (BitVec.ofNat 8 i.val))
end

