-- ==== Sys2Proof/Laws/Arith.lean ====
section
/-! SUPPORT. The arithmetic of Machine/Arith.lean, said once for each operation. -/

namespace Sys2Proof.Machine

/-- `clamp` as the nearer bound. -/
theorem clamp_eq_max_min {lo hi : Int} (h : lo ≤ hi) (v : Int) : clamp lo hi v = max lo (min hi v) := by
  unfold clamp; split_ifs <;> omega

/-- A clamped value lies between its bounds. -/
theorem clamp_within {lo hi : Int} (h : lo ≤ hi) (v : Int) : within lo hi (clamp lo hi v) := by
  unfold clamp within; split_ifs <;> omega

/-- A value in range stands. -/
theorem clamp_of_within {lo hi v : Int} (h : within lo hi v) : clamp lo hi v = v := by
  unfold within at h; unfold clamp; split_ifs <;> omega

/-- `clamp` changes a value exactly where it is out of range. -/
theorem clamp_eq_self_iff {lo hi : Int} (h : lo ≤ hi) (v : Int) : clamp lo hi v = v ↔ within lo hi v :=
  ⟨fun e => e ▸ clamp_within h v, clamp_of_within⟩

theorem mag_eq_natAbs (v : Int) : mag v = v.natAbs := by
  unfold mag; split_ifs <;> omega

/-- Division half up of a non-negative dividend is the floor of the quotient with half the divisor added. -/
theorem divHalfUp_eq {a b : Int} (ha : 0 ≤ a) (hb : 0 < b) : divHalfUp a b = (a + b / 2) / b := by
  have h2 : b.tdiv 2 = b / 2 := Int.tdiv_eq_ediv_of_nonneg hb.le
  have : 0 ≤ a + b / 2 := by omega
  unfold divHalfUp
  rw [h2, Int.tdiv_eq_ediv_of_nonneg this]

/-- Division half away from zero is division half up of the magnitude with the sign restored. -/
theorem divHalfAway_eq (a b : Int) : divHalfAway a b = if a < 0 then -divHalfUp (-a) b else divHalfUp a b := rfl

/-- Division up: the least quotient whose product reaches the dividend. -/
theorem divUp_spec {a b : Int} (ha : 0 ≤ a) (hb : 0 < b) : a ≤ divUp a b * b ∧ (divUp a b - 1) * b < a := by
  have h : 0 ≤ a + (b - 1) := by omega
  have e : divUp a b = (a + (b - 1)) / b := by unfold divUp; exact Int.tdiv_eq_ediv_of_nonneg h
  have h1 := Int.mul_ediv_add_emod (a + (b - 1)) b
  have h2 := Int.emod_lt_of_pos (a + (b - 1)) hb
  have h3 := Int.emod_nonneg (a + (b - 1)) hb.ne'
  rw [e]
  constructor <;> nlinarith

/-- A bounded move ends at the goal or one whole step nearer to it. -/
theorem moveToward_cases (cur goal step : Int) (h : 0 ≤ step) :
    (mag (goal - cur) ≤ step ∧ moveToward cur goal step = goal) ∨
    (cur + step < goal ∧ moveToward cur goal step = cur + step) ∨
    (goal < cur - step ∧ moveToward cur goal step = cur - step) := by
  unfold moveToward mag
  split_ifs <;> omega

theorem satSucc_eq_min {bound n : Nat} (h : n ≤ bound) : satSucc bound n = min bound (n + 1) := by
  unfold satSucc; split_ifs <;> omega

theorem satSucc_le (bound n : Nat) : satSucc bound n ≤ bound := by
  unfold satSucc; split_ifs <;> omega

/-- What an integral step can answer (R81, R135): the whole step with its remainder, the slew limit, or a bound of u. -/
theorem integralStep_cases (gain error slew u residue : Int) :
    let t := gain * error + residue
    let step := clamp (-slew) slew (divZero t 256)
    (u + step < 0 ∧ integralStep gain error slew u residue = (0, 0)) ∨
    (1000 < u + step ∧ integralStep gain error slew u residue = (1000, 0)) ∨
    (within 0 1000 (u + step) ∧ step = divZero t 256 ∧
      integralStep gain error slew u residue = (u + step, t - 256 * step)) ∨
    (within 0 1000 (u + step) ∧ step ≠ divZero t 256 ∧
      integralStep gain error slew u residue = (u + step, 0)) := by
  intro t step
  unfold integralStep within
  simp only
  by_cases h1 : u + step < 0
  · exact .inl ⟨h1, if_pos h1⟩
  by_cases h2 : 1000 < u + step
  · exact .inr (.inl ⟨h2, (if_neg h1).trans (if_pos h2)⟩)
  by_cases h3 : step = divZero t 256
  · refine .inr (.inr (.inl ⟨by omega, h3, (if_neg h1).trans ((if_neg h2).trans ?_)⟩))
    exact congrArg _ ((if_pos h3).trans (by rw [h3]))
  · refine .inr (.inr (.inr ⟨by omega, h3, (if_neg h1).trans ((if_neg h2).trans ?_)⟩))
    exact congrArg _ (if_neg h3)

end Sys2Proof.Machine
end

