-- ==== Sys2Proof/Laws/State.lean ====
section
/-! SUPPORT. The fields of the state after each named update, one lemma per field per update, so that no later proof
unfolds a record update. -/

namespace Sys2Proof.Machine


/-! ### zero0 -/

@[simp] theorem State.zero0_pending (s : State) : s.zero0.pending = s.pending := rfl
@[simp] theorem State.zero0_hold (s : State) : s.zero0.hold = s.hold := rfl
@[simp] theorem State.zero0_control (s : State) : s.zero0.control = s.control := rfl
@[simp] theorem State.zero0_line (s : State) : s.zero0.line = s.line := rfl
@[simp] theorem State.zero0_outbound (s : State) : s.zero0.outbound = s.outbound := rfl
@[simp] theorem State.zero0_marker (s : State) : s.zero0.marker = s.marker := rfl
@[simp] theorem State.zero0_ch0 (s : State) : s.zero0.ch0 = ⟨0, 0⟩ := rfl
@[simp] theorem State.zero0_ch1 (s : State) : s.zero0.ch1 = s.ch1 := rfl
@[simp] theorem State.zero0_row0 (s : State) : s.zero0.row0 = s.row0 := rfl
@[simp] theorem State.zero0_rows (s : State) : s.zero0.rows = s.rows := rfl
@[simp] theorem State.zero0_front (s : State) : s.zero0.front = s.front := rfl
@[simp] theorem State.zero0_wheel (s : State) : s.zero0.wheel = s.wheel := rfl
@[simp] theorem State.zero0_arb (s : State) : s.zero0.arb = s.arb := rfl
@[simp] theorem State.zero0_steer (s : State) : s.zero0.steer = s.steer := rfl
@[simp] theorem State.zero0_ret (s : State) : s.zero0.ret = s.ret := rfl
@[simp] theorem State.zero0_duty (s : State) : s.zero0.duty = s.duty := rfl
@[simp] theorem State.zero0_flags (s : State) : s.zero0.flags = s.flags := rfl

/-! ### stage0 -/

@[simp] theorem State.stage0_pending (s : State) (v : Int) : (s.stage0 v).pending = s.pending := rfl
@[simp] theorem State.stage0_hold (s : State) (v : Int) : (s.stage0 v).hold = s.hold := rfl
@[simp] theorem State.stage0_control (s : State) (v : Int) : (s.stage0 v).control = s.control := rfl
@[simp] theorem State.stage0_line (s : State) (v : Int) : (s.stage0 v).line = s.line := rfl
@[simp] theorem State.stage0_outbound (s : State) (v : Int) : (s.stage0 v).outbound = s.outbound := rfl
@[simp] theorem State.stage0_marker (s : State) (v : Int) : (s.stage0 v).marker = s.marker := rfl
@[simp] theorem State.stage0_ch0 (s : State) (v : Int) :
    (s.stage0 v).ch0 = { s.ch0 with staged := if s.stopForces && s.modeInForce == .stop then 0 else v } := rfl
@[simp] theorem State.stage0_ch1 (s : State) (v : Int) : (s.stage0 v).ch1 = s.ch1 := rfl
@[simp] theorem State.stage0_row0 (s : State) (v : Int) : (s.stage0 v).row0 = s.row0 := rfl
@[simp] theorem State.stage0_rows (s : State) (v : Int) : (s.stage0 v).rows = s.rows := rfl
@[simp] theorem State.stage0_front (s : State) (v : Int) : (s.stage0 v).front = s.front := rfl
@[simp] theorem State.stage0_wheel (s : State) (v : Int) : (s.stage0 v).wheel = s.wheel := rfl
@[simp] theorem State.stage0_arb (s : State) (v : Int) : (s.stage0 v).arb = s.arb := rfl
@[simp] theorem State.stage0_steer (s : State) (v : Int) : (s.stage0 v).steer = s.steer := rfl
@[simp] theorem State.stage0_ret (s : State) (v : Int) : (s.stage0 v).ret = s.ret := rfl
@[simp] theorem State.stage0_duty (s : State) (v : Int) : (s.stage0 v).duty = s.duty := rfl
@[simp] theorem State.stage0_flags (s : State) (v : Int) : (s.stage0 v).flags = s.flags := rfl

/-! ### stage1 -/

@[simp] theorem State.stage1_pending (s : State) (v : Int) : (s.stage1 v).pending = s.pending := rfl
@[simp] theorem State.stage1_hold (s : State) (v : Int) : (s.stage1 v).hold = s.hold := rfl
@[simp] theorem State.stage1_control (s : State) (v : Int) : (s.stage1 v).control = s.control := rfl
@[simp] theorem State.stage1_line (s : State) (v : Int) : (s.stage1 v).line = s.line := rfl
@[simp] theorem State.stage1_outbound (s : State) (v : Int) : (s.stage1 v).outbound = s.outbound := rfl
@[simp] theorem State.stage1_marker (s : State) (v : Int) : (s.stage1 v).marker = s.marker := rfl
@[simp] theorem State.stage1_ch0 (s : State) (v : Int) : (s.stage1 v).ch0 = s.ch0 := rfl
@[simp] theorem State.stage1_ch1 (s : State) (v : Int) : (s.stage1 v).ch1 = { s.ch1 with staged := v } := rfl
@[simp] theorem State.stage1_row0 (s : State) (v : Int) : (s.stage1 v).row0 = s.row0 := rfl
@[simp] theorem State.stage1_rows (s : State) (v : Int) : (s.stage1 v).rows = s.rows := rfl
@[simp] theorem State.stage1_front (s : State) (v : Int) : (s.stage1 v).front = s.front := rfl
@[simp] theorem State.stage1_wheel (s : State) (v : Int) : (s.stage1 v).wheel = s.wheel := rfl
@[simp] theorem State.stage1_arb (s : State) (v : Int) : (s.stage1 v).arb = s.arb := rfl
@[simp] theorem State.stage1_steer (s : State) (v : Int) : (s.stage1 v).steer = s.steer := rfl
@[simp] theorem State.stage1_ret (s : State) (v : Int) : (s.stage1 v).ret = s.ret := rfl
@[simp] theorem State.stage1_duty (s : State) (v : Int) : (s.stage1 v).duty = s.duty := rfl
@[simp] theorem State.stage1_flags (s : State) (v : Int) : (s.stage1 v).flags = s.flags := rfl

/-! ### applyAtMark -/

@[simp] theorem State.applyAtMark_pending (s : State) : s.applyAtMark.pending = s.pending := rfl
@[simp] theorem State.applyAtMark_hold (s : State) : s.applyAtMark.hold = s.hold := rfl
@[simp] theorem State.applyAtMark_control (s : State) : s.applyAtMark.control = s.control := rfl
@[simp] theorem State.applyAtMark_line (s : State) : s.applyAtMark.line = s.line := rfl
@[simp] theorem State.applyAtMark_outbound (s : State) : s.applyAtMark.outbound = s.outbound := rfl
@[simp] theorem State.applyAtMark_marker (s : State) : s.applyAtMark.marker = s.marker := rfl
@[simp] theorem State.applyAtMark_ch0 (s : State) :
    s.applyAtMark.ch0 = if s.compute0 then s.ch0 else s.ch0.apply := rfl
@[simp] theorem State.applyAtMark_ch1 (s : State) :
    s.applyAtMark.ch1 = if s.compute1 then s.ch1 else s.ch1.apply := rfl
@[simp] theorem State.applyAtMark_row0 (s : State) : s.applyAtMark.row0 = s.row0 := rfl
@[simp] theorem State.applyAtMark_rows (s : State) : s.applyAtMark.rows = s.rows := rfl
@[simp] theorem State.applyAtMark_front (s : State) : s.applyAtMark.front = s.front := rfl
@[simp] theorem State.applyAtMark_wheel (s : State) : s.applyAtMark.wheel = s.wheel := rfl
@[simp] theorem State.applyAtMark_arb (s : State) : s.applyAtMark.arb = s.arb := rfl
@[simp] theorem State.applyAtMark_steer (s : State) : s.applyAtMark.steer = s.steer := rfl
@[simp] theorem State.applyAtMark_ret (s : State) : s.applyAtMark.ret = s.ret := rfl
@[simp] theorem State.applyAtMark_duty (s : State) : s.applyAtMark.duty = s.duty := rfl
@[simp] theorem State.applyAtMark_flags (s : State) : s.applyAtMark.flags = s.flags := rfl

/-! ### applyAtCompute -/

@[simp] theorem State.applyAtCompute_pending (s : State) : s.applyAtCompute.pending = s.pending := rfl
@[simp] theorem State.applyAtCompute_hold (s : State) : s.applyAtCompute.hold = s.hold := rfl
@[simp] theorem State.applyAtCompute_control (s : State) : s.applyAtCompute.control = s.control := rfl
@[simp] theorem State.applyAtCompute_line (s : State) : s.applyAtCompute.line = s.line := rfl
@[simp] theorem State.applyAtCompute_outbound (s : State) : s.applyAtCompute.outbound = s.outbound := rfl
@[simp] theorem State.applyAtCompute_marker (s : State) : s.applyAtCompute.marker = s.marker := rfl
@[simp] theorem State.applyAtCompute_ch0 (s : State) :
    s.applyAtCompute.ch0 = if s.compute0 then s.ch0.apply else s.ch0 := rfl
@[simp] theorem State.applyAtCompute_ch1 (s : State) :
    s.applyAtCompute.ch1 = if s.compute1 then s.ch1.apply else s.ch1 := rfl
@[simp] theorem State.applyAtCompute_row0 (s : State) : s.applyAtCompute.row0 = s.row0 := rfl
@[simp] theorem State.applyAtCompute_rows (s : State) : s.applyAtCompute.rows = s.rows := rfl
@[simp] theorem State.applyAtCompute_front (s : State) : s.applyAtCompute.front = s.front := rfl
@[simp] theorem State.applyAtCompute_wheel (s : State) : s.applyAtCompute.wheel = s.wheel := rfl
@[simp] theorem State.applyAtCompute_arb (s : State) : s.applyAtCompute.arb = s.arb := rfl
@[simp] theorem State.applyAtCompute_steer (s : State) : s.applyAtCompute.steer = s.steer := rfl
@[simp] theorem State.applyAtCompute_ret (s : State) : s.applyAtCompute.ret = s.ret := rfl
@[simp] theorem State.applyAtCompute_duty (s : State) : s.applyAtCompute.duty = s.duty := rfl
@[simp] theorem State.applyAtCompute_flags (s : State) : s.applyAtCompute.flags = s.flags := rfl

/-! ### closePeriod -/

@[simp] theorem State.closePeriod_pending (s : State) (first : Bool) :
    (s.closePeriod first).pending = s.pending := rfl
@[simp] theorem State.closePeriod_hold (s : State) (first : Bool) : (s.closePeriod first).hold = s.hold := rfl
@[simp] theorem State.closePeriod_control (s : State) (first : Bool) :
    (s.closePeriod first).control = s.control := rfl
@[simp] theorem State.closePeriod_line (s : State) (first : Bool) : (s.closePeriod first).line = s.line := rfl
@[simp] theorem State.closePeriod_outbound (s : State) (first : Bool) :
    (s.closePeriod first).outbound = s.outbound := rfl
@[simp] theorem State.closePeriod_marker (s : State) (first : Bool) : (s.closePeriod first).marker = s.marker := rfl
@[simp] theorem State.closePeriod_ch0 (s : State) (first : Bool) : (s.closePeriod first).ch0 = s.ch0 := rfl
@[simp] theorem State.closePeriod_ch1 (s : State) (first : Bool) : (s.closePeriod first).ch1 = s.ch1 := rfl
@[simp] theorem State.closePeriod_row0 (s : State) (first : Bool) : (s.closePeriod first).row0 = s.row0 := rfl
@[simp] theorem State.closePeriod_rows (s : State) (first : Bool) : (s.closePeriod first).rows = s.rows := rfl
@[simp] theorem State.closePeriod_wheel (s : State) (first : Bool) : (s.closePeriod first).wheel = s.wheel := rfl
@[simp] theorem State.closePeriod_arb (s : State) (first : Bool) : (s.closePeriod first).arb = s.arb := rfl
@[simp] theorem State.closePeriod_steer (s : State) (first : Bool) : (s.closePeriod first).steer = s.steer := rfl
@[simp] theorem State.closePeriod_ret (s : State) (first : Bool) : (s.closePeriod first).ret = s.ret := rfl
@[simp] theorem State.closePeriod_duty (s : State) (first : Bool) : (s.closePeriod first).duty = s.duty := rfl
@[simp] theorem State.closePeriod_flags (s : State) (first : Bool) : (s.closePeriod first).flags = s.flags := rfl

/-! ### formSpeeds -/

@[simp] theorem State.formSpeeds_pending (s : State) : s.formSpeeds.pending = s.pending := rfl
@[simp] theorem State.formSpeeds_hold (s : State) : s.formSpeeds.hold = s.hold := rfl
@[simp] theorem State.formSpeeds_control (s : State) : s.formSpeeds.control = s.control := rfl
@[simp] theorem State.formSpeeds_line (s : State) : s.formSpeeds.line = s.line := rfl
@[simp] theorem State.formSpeeds_outbound (s : State) : s.formSpeeds.outbound = s.outbound := rfl
@[simp] theorem State.formSpeeds_marker (s : State) : s.formSpeeds.marker = s.marker := rfl
@[simp] theorem State.formSpeeds_ch0 (s : State) : s.formSpeeds.ch0 = s.ch0 := rfl
@[simp] theorem State.formSpeeds_ch1 (s : State) : s.formSpeeds.ch1 = s.ch1 := rfl
@[simp] theorem State.formSpeeds_row0 (s : State) : s.formSpeeds.row0 = s.row0 := rfl
@[simp] theorem State.formSpeeds_rows (s : State) : s.formSpeeds.rows = s.rows := rfl
@[simp] theorem State.formSpeeds_wheel (s : State) : s.formSpeeds.wheel = s.wheel := rfl
@[simp] theorem State.formSpeeds_arb (s : State) : s.formSpeeds.arb = s.arb := rfl
@[simp] theorem State.formSpeeds_steer (s : State) : s.formSpeeds.steer = s.steer := rfl
@[simp] theorem State.formSpeeds_ret (s : State) : s.formSpeeds.ret = s.ret := rfl
@[simp] theorem State.formSpeeds_duty (s : State) : s.formSpeeds.duty = s.duty := rfl
@[simp] theorem State.formSpeeds_flags (s : State) : s.formSpeeds.flags = s.flags := rfl

/-! ### refreshRow -/

@[simp] theorem State.refreshRow_pending (s : State) (n : Nat) (r : Report) :
    (s.refreshRow n r).pending = s.pending := rfl
@[simp] theorem State.refreshRow_hold (s : State) (n : Nat) (r : Report) : (s.refreshRow n r).hold = s.hold := rfl
@[simp] theorem State.refreshRow_control (s : State) (n : Nat) (r : Report) :
    (s.refreshRow n r).control = s.control := rfl
@[simp] theorem State.refreshRow_line (s : State) (n : Nat) (r : Report) : (s.refreshRow n r).line = s.line := rfl
@[simp] theorem State.refreshRow_outbound (s : State) (n : Nat) (r : Report) :
    (s.refreshRow n r).outbound = s.outbound := rfl
@[simp] theorem State.refreshRow_marker (s : State) (n : Nat) (r : Report) :
    (s.refreshRow n r).marker = s.marker := rfl
@[simp] theorem State.refreshRow_ch0 (s : State) (n : Nat) (r : Report) : (s.refreshRow n r).ch0 = s.ch0 := rfl
@[simp] theorem State.refreshRow_ch1 (s : State) (n : Nat) (r : Report) : (s.refreshRow n r).ch1 = s.ch1 := rfl
@[simp] theorem State.refreshRow_row0 (s : State) (n : Nat) (r : Report) : (s.refreshRow n r).row0 = s.row0 := rfl
@[simp] theorem State.refreshRow_rows (s : State) (n : Nat) (r : Report) :
    (s.refreshRow n r).rows = s.rows.setIfInBounds (n - 1) (.heard .fresh 0 (peerContentOf r)) := rfl
@[simp] theorem State.refreshRow_front (s : State) (n : Nat) (r : Report) : (s.refreshRow n r).front = s.front := rfl
@[simp] theorem State.refreshRow_wheel (s : State) (n : Nat) (r : Report) : (s.refreshRow n r).wheel = s.wheel := rfl
@[simp] theorem State.refreshRow_arb (s : State) (n : Nat) (r : Report) : (s.refreshRow n r).arb = s.arb := rfl
@[simp] theorem State.refreshRow_steer (s : State) (n : Nat) (r : Report) : (s.refreshRow n r).steer = s.steer := rfl
@[simp] theorem State.refreshRow_ret (s : State) (n : Nat) (r : Report) : (s.refreshRow n r).ret = s.ret := rfl
@[simp] theorem State.refreshRow_duty (s : State) (n : Nat) (r : Report) : (s.refreshRow n r).duty = s.duty := rfl
@[simp] theorem State.refreshRow_flags (s : State) (n : Nat) (r : Report) : (s.refreshRow n r).flags = s.flags := rfl

/-! ### refreshRow0 -/

@[simp] theorem State.refreshRow0_pending (s : State) (d : DemandContent) :
    (s.refreshRow0 d).pending = s.pending := rfl
@[simp] theorem State.refreshRow0_hold (s : State) (d : DemandContent) : (s.refreshRow0 d).hold = s.hold := rfl
@[simp] theorem State.refreshRow0_control (s : State) (d : DemandContent) :
    (s.refreshRow0 d).control = s.control := rfl
@[simp] theorem State.refreshRow0_line (s : State) (d : DemandContent) : (s.refreshRow0 d).line = s.line := rfl
@[simp] theorem State.refreshRow0_outbound (s : State) (d : DemandContent) :
    (s.refreshRow0 d).outbound = s.outbound := rfl
@[simp] theorem State.refreshRow0_marker (s : State) (d : DemandContent) : (s.refreshRow0 d).marker = s.marker := rfl
@[simp] theorem State.refreshRow0_ch0 (s : State) (d : DemandContent) : (s.refreshRow0 d).ch0 = s.ch0 := rfl
@[simp] theorem State.refreshRow0_ch1 (s : State) (d : DemandContent) : (s.refreshRow0 d).ch1 = s.ch1 := rfl
@[simp] theorem State.refreshRow0_row0 (s : State) (d : DemandContent) :
    (s.refreshRow0 d).row0 = .heard .fresh 0 d := rfl
@[simp] theorem State.refreshRow0_rows (s : State) (d : DemandContent) : (s.refreshRow0 d).rows = s.rows := rfl
@[simp] theorem State.refreshRow0_front (s : State) (d : DemandContent) : (s.refreshRow0 d).front = s.front := rfl
@[simp] theorem State.refreshRow0_wheel (s : State) (d : DemandContent) : (s.refreshRow0 d).wheel = s.wheel := rfl
@[simp] theorem State.refreshRow0_arb (s : State) (d : DemandContent) : (s.refreshRow0 d).arb = s.arb := rfl
@[simp] theorem State.refreshRow0_steer (s : State) (d : DemandContent) : (s.refreshRow0 d).steer = s.steer := rfl
@[simp] theorem State.refreshRow0_ret (s : State) (d : DemandContent) : (s.refreshRow0 d).ret = s.ret := rfl
@[simp] theorem State.refreshRow0_duty (s : State) (d : DemandContent) : (s.refreshRow0 d).duty = s.duty := rfl
@[simp] theorem State.refreshRow0_flags (s : State) (d : DemandContent) : (s.refreshRow0 d).flags = s.flags := rfl

/-! ### startPeriodTimer -/

@[simp] theorem State.startPeriodTimer_pending (s : State) : s.startPeriodTimer.pending = s.pending := rfl
@[simp] theorem State.startPeriodTimer_hold (s : State) : s.startPeriodTimer.hold = s.hold := rfl
@[simp] theorem State.startPeriodTimer_control (s : State) : s.startPeriodTimer.control = s.control := rfl
@[simp] theorem State.startPeriodTimer_line (s : State) : s.startPeriodTimer.line = s.line := rfl
@[simp] theorem State.startPeriodTimer_outbound (s : State) : s.startPeriodTimer.outbound = s.outbound := rfl
@[simp] theorem State.startPeriodTimer_marker (s : State) :
    s.startPeriodTimer.marker = { s.marker with periodTimer := some s.periodLength } := rfl
@[simp] theorem State.startPeriodTimer_ch0 (s : State) : s.startPeriodTimer.ch0 = s.ch0 := rfl
@[simp] theorem State.startPeriodTimer_ch1 (s : State) : s.startPeriodTimer.ch1 = s.ch1 := rfl
@[simp] theorem State.startPeriodTimer_row0 (s : State) : s.startPeriodTimer.row0 = s.row0 := rfl
@[simp] theorem State.startPeriodTimer_rows (s : State) : s.startPeriodTimer.rows = s.rows := rfl
@[simp] theorem State.startPeriodTimer_front (s : State) : s.startPeriodTimer.front = s.front := rfl
@[simp] theorem State.startPeriodTimer_wheel (s : State) : s.startPeriodTimer.wheel = s.wheel := rfl
@[simp] theorem State.startPeriodTimer_arb (s : State) : s.startPeriodTimer.arb = s.arb := rfl
@[simp] theorem State.startPeriodTimer_steer (s : State) : s.startPeriodTimer.steer = s.steer := rfl
@[simp] theorem State.startPeriodTimer_ret (s : State) : s.startPeriodTimer.ret = s.ret := rfl
@[simp] theorem State.startPeriodTimer_duty (s : State) : s.startPeriodTimer.duty = s.duty := rfl
@[simp] theorem State.startPeriodTimer_flags (s : State) : s.startPeriodTimer.flags = s.flags := rfl

/-! ### setMark -/

@[simp] theorem State.setMark_pending (s : State) (n : Half) : (s.setMark n).pending = s.pending := rfl
@[simp] theorem State.setMark_hold (s : State) (n : Half) : (s.setMark n).hold = s.hold := rfl
@[simp] theorem State.setMark_control (s : State) (n : Half) : (s.setMark n).control = s.control := rfl
@[simp] theorem State.setMark_line (s : State) (n : Half) : (s.setMark n).line = s.line := rfl
@[simp] theorem State.setMark_outbound (s : State) (n : Half) :
    (s.setMark n).outbound = s.outbound.withdraw .mark := rfl
@[simp] theorem State.setMark_marker (s : State) (n : Half) :
    (s.setMark n).marker = ⟨n, false, some s.periodLength, some s.computeLength, s.marker.sample⟩ := rfl
@[simp] theorem State.setMark_ch0 (s : State) (n : Half) : (s.setMark n).ch0 = s.ch0 := rfl
@[simp] theorem State.setMark_ch1 (s : State) (n : Half) : (s.setMark n).ch1 = s.ch1 := rfl
@[simp] theorem State.setMark_row0 (s : State) (n : Half) : (s.setMark n).row0 = s.row0 := rfl
@[simp] theorem State.setMark_rows (s : State) (n : Half) : (s.setMark n).rows = s.rows := rfl
@[simp] theorem State.setMark_front (s : State) (n : Half) : (s.setMark n).front = s.front := rfl
@[simp] theorem State.setMark_wheel (s : State) (n : Half) : (s.setMark n).wheel = s.wheel := rfl
@[simp] theorem State.setMark_arb (s : State) (n : Half) : (s.setMark n).arb = s.arb := rfl
@[simp] theorem State.setMark_steer (s : State) (n : Half) : (s.setMark n).steer = s.steer := rfl
@[simp] theorem State.setMark_ret (s : State) (n : Half) : (s.setMark n).ret = s.ret := rfl
@[simp] theorem State.setMark_duty (s : State) (n : Half) : (s.setMark n).duty = s.duty := rfl
@[simp] theorem State.setMark_flags (s : State) (n : Half) : (s.setMark n).flags = s.flags := rfl

/-! ### stopCompute -/

@[simp] theorem State.stopCompute_pending (s : State) : s.stopCompute.pending = s.pending := rfl
@[simp] theorem State.stopCompute_hold (s : State) : s.stopCompute.hold = s.hold := rfl
@[simp] theorem State.stopCompute_control (s : State) : s.stopCompute.control = s.control := rfl
@[simp] theorem State.stopCompute_line (s : State) : s.stopCompute.line = s.line := rfl
@[simp] theorem State.stopCompute_outbound (s : State) : s.stopCompute.outbound = s.outbound := rfl
@[simp] theorem State.stopCompute_marker (s : State) :
    s.stopCompute.marker = { s.marker with computeTimer := none } := rfl
@[simp] theorem State.stopCompute_ch0 (s : State) : s.stopCompute.ch0 = s.ch0 := rfl
@[simp] theorem State.stopCompute_ch1 (s : State) : s.stopCompute.ch1 = s.ch1 := rfl
@[simp] theorem State.stopCompute_row0 (s : State) : s.stopCompute.row0 = s.row0 := rfl
@[simp] theorem State.stopCompute_rows (s : State) : s.stopCompute.rows = s.rows := rfl
@[simp] theorem State.stopCompute_front (s : State) : s.stopCompute.front = s.front := rfl
@[simp] theorem State.stopCompute_wheel (s : State) : s.stopCompute.wheel = s.wheel := rfl
@[simp] theorem State.stopCompute_arb (s : State) : s.stopCompute.arb = s.arb := rfl
@[simp] theorem State.stopCompute_steer (s : State) : s.stopCompute.steer = s.steer := rfl
@[simp] theorem State.stopCompute_ret (s : State) : s.stopCompute.ret = s.ret := rfl
@[simp] theorem State.stopCompute_duty (s : State) : s.stopCompute.duty = s.duty := rfl
@[simp] theorem State.stopCompute_flags (s : State) : s.stopCompute.flags = s.flags := rfl

/-! ### noteSample -/

@[simp] theorem State.noteSample_pending (s : State) : s.noteSample.pending = s.pending := rfl
@[simp] theorem State.noteSample_hold (s : State) : s.noteSample.hold = s.hold := rfl
@[simp] theorem State.noteSample_control (s : State) : s.noteSample.control = s.control := rfl
@[simp] theorem State.noteSample_line (s : State) : s.noteSample.line = s.line := rfl
@[simp] theorem State.noteSample_outbound (s : State) : s.noteSample.outbound = s.outbound := rfl
@[simp] theorem State.noteSample_marker (s : State) :
    s.noteSample.marker = { s.marker with sample := some s.marker.count } := rfl
@[simp] theorem State.noteSample_ch0 (s : State) : s.noteSample.ch0 = s.ch0 := rfl
@[simp] theorem State.noteSample_ch1 (s : State) : s.noteSample.ch1 = s.ch1 := rfl
@[simp] theorem State.noteSample_row0 (s : State) : s.noteSample.row0 = s.row0 := rfl
@[simp] theorem State.noteSample_rows (s : State) : s.noteSample.rows = s.rows := rfl
@[simp] theorem State.noteSample_front (s : State) : s.noteSample.front = s.front := rfl
@[simp] theorem State.noteSample_wheel (s : State) : s.noteSample.wheel = s.wheel := rfl
@[simp] theorem State.noteSample_arb (s : State) : s.noteSample.arb = s.arb := rfl
@[simp] theorem State.noteSample_steer (s : State) : s.noteSample.steer = s.steer := rfl
@[simp] theorem State.noteSample_ret (s : State) : s.noteSample.ret = s.ret := rfl
@[simp] theorem State.noteSample_duty (s : State) : s.noteSample.duty = s.duty := rfl
@[simp] theorem State.noteSample_flags (s : State) : s.noteSample.flags = s.flags := rfl

/-! ### withdrawHalt -/

@[simp] theorem State.withdrawHalt_pending (s : State) : s.withdrawHalt.pending = s.pending := rfl
@[simp] theorem State.withdrawHalt_hold (s : State) : s.withdrawHalt.hold = s.hold := rfl
@[simp] theorem State.withdrawHalt_control (s : State) : s.withdrawHalt.control = s.control := rfl
@[simp] theorem State.withdrawHalt_line (s : State) : s.withdrawHalt.line = s.line := rfl
@[simp] theorem State.withdrawHalt_outbound (s : State) :
    s.withdrawHalt.outbound = s.outbound.withdraw .countHalt := rfl
@[simp] theorem State.withdrawHalt_marker (s : State) : s.withdrawHalt.marker = s.marker := rfl
@[simp] theorem State.withdrawHalt_ch0 (s : State) : s.withdrawHalt.ch0 = s.ch0 := rfl
@[simp] theorem State.withdrawHalt_ch1 (s : State) : s.withdrawHalt.ch1 = s.ch1 := rfl
@[simp] theorem State.withdrawHalt_row0 (s : State) : s.withdrawHalt.row0 = s.row0 := rfl
@[simp] theorem State.withdrawHalt_rows (s : State) : s.withdrawHalt.rows = s.rows := rfl
@[simp] theorem State.withdrawHalt_front (s : State) : s.withdrawHalt.front = s.front := rfl
@[simp] theorem State.withdrawHalt_wheel (s : State) : s.withdrawHalt.wheel = s.wheel := rfl
@[simp] theorem State.withdrawHalt_arb (s : State) : s.withdrawHalt.arb = s.arb := rfl
@[simp] theorem State.withdrawHalt_steer (s : State) : s.withdrawHalt.steer = s.steer := rfl
@[simp] theorem State.withdrawHalt_ret (s : State) : s.withdrawHalt.ret = s.ret := rfl
@[simp] theorem State.withdrawHalt_duty (s : State) : s.withdrawHalt.duty = s.duty := rfl
@[simp] theorem State.withdrawHalt_flags (s : State) : s.withdrawHalt.flags = s.flags := rfl

/-! ### freezeOwn -/

@[simp] theorem State.freezeOwn_pending (s : State) : s.freezeOwn.pending = s.pending := rfl
@[simp] theorem State.freezeOwn_hold (s : State) : s.freezeOwn.hold = s.hold := rfl
@[simp] theorem State.freezeOwn_control (s : State) : s.freezeOwn.control = s.control := rfl
@[simp] theorem State.freezeOwn_line (s : State) : s.freezeOwn.line = s.line := rfl
@[simp] theorem State.freezeOwn_outbound (s : State) : s.freezeOwn.outbound = s.outbound.withdraw .countHalt := rfl
@[simp] theorem State.freezeOwn_marker (s : State) : s.freezeOwn.marker = s.marker := rfl
@[simp] theorem State.freezeOwn_ch0 (s : State) : s.freezeOwn.ch0 = s.ch0 := rfl
@[simp] theorem State.freezeOwn_ch1 (s : State) : s.freezeOwn.ch1 = s.ch1 := rfl
@[simp] theorem State.freezeOwn_row0 (s : State) : s.freezeOwn.row0 = s.row0 := rfl
@[simp] theorem State.freezeOwn_rows (s : State) : s.freezeOwn.rows = s.rows := rfl
@[simp] theorem State.freezeOwn_front (s : State) : s.freezeOwn.front = s.front := rfl
@[simp] theorem State.freezeOwn_wheel (s : State) : s.freezeOwn.wheel = s.wheel := rfl
@[simp] theorem State.freezeOwn_arb (s : State) : s.freezeOwn.arb = s.arb := rfl
@[simp] theorem State.freezeOwn_steer (s : State) : s.freezeOwn.steer = s.steer := rfl
@[simp] theorem State.freezeOwn_ret (s : State) : s.freezeOwn.ret = s.ret := rfl
@[simp] theorem State.freezeOwn_duty (s : State) :
    s.freezeOwn.duty = { s.duty with frozen := true, halting := s.number } := rfl
@[simp] theorem State.freezeOwn_flags (s : State) : s.freezeOwn.flags = s.flags := rfl

/-! ### takeHalt -/

@[simp] theorem State.takeHalt_pending (s : State) (n : Nibble) : (s.takeHalt n).pending = s.pending := rfl
@[simp] theorem State.takeHalt_hold (s : State) (n : Nibble) : (s.takeHalt n).hold = s.hold := rfl
@[simp] theorem State.takeHalt_control (s : State) (n : Nibble) : (s.takeHalt n).control = s.control := rfl
@[simp] theorem State.takeHalt_line (s : State) (n : Nibble) : (s.takeHalt n).line = s.line := rfl
@[simp] theorem State.takeHalt_outbound (s : State) (n : Nibble) :
    (s.takeHalt n).outbound = s.outbound.withdraw .countHalt := rfl
@[simp] theorem State.takeHalt_marker (s : State) (n : Nibble) : (s.takeHalt n).marker = s.marker := rfl
@[simp] theorem State.takeHalt_ch0 (s : State) (n : Nibble) : (s.takeHalt n).ch0 = s.ch0 := rfl
@[simp] theorem State.takeHalt_ch1 (s : State) (n : Nibble) : (s.takeHalt n).ch1 = s.ch1 := rfl
@[simp] theorem State.takeHalt_row0 (s : State) (n : Nibble) : (s.takeHalt n).row0 = s.row0 := rfl
@[simp] theorem State.takeHalt_rows (s : State) (n : Nibble) : (s.takeHalt n).rows = s.rows := rfl
@[simp] theorem State.takeHalt_front (s : State) (n : Nibble) : (s.takeHalt n).front = s.front := rfl
@[simp] theorem State.takeHalt_wheel (s : State) (n : Nibble) : (s.takeHalt n).wheel = s.wheel := rfl
@[simp] theorem State.takeHalt_arb (s : State) (n : Nibble) : (s.takeHalt n).arb = s.arb := rfl
@[simp] theorem State.takeHalt_steer (s : State) (n : Nibble) : (s.takeHalt n).steer = s.steer := rfl
@[simp] theorem State.takeHalt_ret (s : State) (n : Nibble) : (s.takeHalt n).ret = s.ret := rfl
@[simp] theorem State.takeHalt_duty (s : State) (n : Nibble) :
    (s.takeHalt n).duty = if s.duty.frozen then s.duty else { s.duty with frozen := true, halting := n } := rfl
@[simp] theorem State.takeHalt_flags (s : State) (n : Nibble) : (s.takeHalt n).flags = s.flags := rfl

/-! ### takeThaw -/

@[simp] theorem State.takeThaw_pending (s : State) : s.takeThaw.pending = s.pending := rfl
@[simp] theorem State.takeThaw_hold (s : State) : s.takeThaw.hold = s.hold := rfl
@[simp] theorem State.takeThaw_control (s : State) : s.takeThaw.control = s.control := rfl
@[simp] theorem State.takeThaw_line (s : State) : s.takeThaw.line = s.line := rfl
@[simp] theorem State.takeThaw_outbound (s : State) : s.takeThaw.outbound = s.outbound := rfl
@[simp] theorem State.takeThaw_marker (s : State) : s.takeThaw.marker = s.marker := rfl
@[simp] theorem State.takeThaw_ch0 (s : State) : s.takeThaw.ch0 = s.ch0 := rfl
@[simp] theorem State.takeThaw_ch1 (s : State) : s.takeThaw.ch1 = s.ch1 := rfl
@[simp] theorem State.takeThaw_row0 (s : State) : s.takeThaw.row0 = s.row0 := rfl
@[simp] theorem State.takeThaw_rows (s : State) : s.takeThaw.rows = s.rows := rfl
@[simp] theorem State.takeThaw_front (s : State) : s.takeThaw.front = s.front := rfl
@[simp] theorem State.takeThaw_wheel (s : State) : s.takeThaw.wheel = s.wheel := rfl
@[simp] theorem State.takeThaw_arb (s : State) : s.takeThaw.arb = s.arb := rfl
@[simp] theorem State.takeThaw_steer (s : State) : s.takeThaw.steer = s.steer := rfl
@[simp] theorem State.takeThaw_ret (s : State) : s.takeThaw.ret = s.ret := rfl
@[simp] theorem State.takeThaw_duty (s : State) :
    s.takeThaw.duty = { s.duty with frozen := false, halting := 15 } := rfl
@[simp] theorem State.takeThaw_flags (s : State) : s.takeThaw.flags = s.flags := rfl

/-! ### clearFlags -/

@[simp] theorem State.clearFlags_pending (s : State) (codes : Half) : (s.clearFlags codes).pending = s.pending := rfl
@[simp] theorem State.clearFlags_hold (s : State) (codes : Half) : (s.clearFlags codes).hold = s.hold := rfl
@[simp] theorem State.clearFlags_control (s : State) (codes : Half) : (s.clearFlags codes).control = s.control := rfl
@[simp] theorem State.clearFlags_line (s : State) (codes : Half) : (s.clearFlags codes).line = s.line := rfl
@[simp] theorem State.clearFlags_outbound (s : State) (codes : Half) :
    (s.clearFlags codes).outbound = s.outbound := rfl
@[simp] theorem State.clearFlags_marker (s : State) (codes : Half) : (s.clearFlags codes).marker = s.marker := rfl
@[simp] theorem State.clearFlags_ch0 (s : State) (codes : Half) : (s.clearFlags codes).ch0 = s.ch0 := rfl
@[simp] theorem State.clearFlags_ch1 (s : State) (codes : Half) : (s.clearFlags codes).ch1 = s.ch1 := rfl
@[simp] theorem State.clearFlags_row0 (s : State) (codes : Half) : (s.clearFlags codes).row0 = s.row0 := rfl
@[simp] theorem State.clearFlags_rows (s : State) (codes : Half) : (s.clearFlags codes).rows = s.rows := rfl
@[simp] theorem State.clearFlags_front (s : State) (codes : Half) : (s.clearFlags codes).front = s.front := rfl
@[simp] theorem State.clearFlags_wheel (s : State) (codes : Half) : (s.clearFlags codes).wheel = s.wheel := rfl
@[simp] theorem State.clearFlags_arb (s : State) (codes : Half) : (s.clearFlags codes).arb = s.arb := rfl
@[simp] theorem State.clearFlags_steer (s : State) (codes : Half) : (s.clearFlags codes).steer = s.steer := rfl
@[simp] theorem State.clearFlags_ret (s : State) (codes : Half) : (s.clearFlags codes).ret = s.ret := rfl
@[simp] theorem State.clearFlags_duty (s : State) (codes : Half) : (s.clearFlags codes).duty = s.duty := rfl
@[simp] theorem State.clearFlags_flags (s : State) (codes : Half) :
    (s.clearFlags codes).flags = s.flags &&& ~~~(codes &&& ~~~s.heldSet) := rfl

/-! ### emptySlot -/

@[simp] theorem State.emptySlot_pending (s : State) (r : Receiver) : (s.emptySlot r).pending = s.pending := rfl
@[simp] theorem State.emptySlot_hold (s : State) (r : Receiver) : (s.emptySlot r).hold = s.hold := rfl
@[simp] theorem State.emptySlot_control (s : State) (r : Receiver) : (s.emptySlot r).control = s.control := rfl
@[simp] theorem State.emptySlot_line (s : State) (r : Receiver) :
    (s.emptySlot r).line = { s.line with slot := none, receiver := r } := rfl
@[simp] theorem State.emptySlot_outbound (s : State) (r : Receiver) : (s.emptySlot r).outbound = s.outbound := rfl
@[simp] theorem State.emptySlot_marker (s : State) (r : Receiver) : (s.emptySlot r).marker = s.marker := rfl
@[simp] theorem State.emptySlot_ch0 (s : State) (r : Receiver) : (s.emptySlot r).ch0 = s.ch0 := rfl
@[simp] theorem State.emptySlot_ch1 (s : State) (r : Receiver) : (s.emptySlot r).ch1 = s.ch1 := rfl
@[simp] theorem State.emptySlot_row0 (s : State) (r : Receiver) : (s.emptySlot r).row0 = s.row0 := rfl
@[simp] theorem State.emptySlot_rows (s : State) (r : Receiver) : (s.emptySlot r).rows = s.rows := rfl
@[simp] theorem State.emptySlot_front (s : State) (r : Receiver) : (s.emptySlot r).front = s.front := rfl
@[simp] theorem State.emptySlot_wheel (s : State) (r : Receiver) : (s.emptySlot r).wheel = s.wheel := rfl
@[simp] theorem State.emptySlot_arb (s : State) (r : Receiver) : (s.emptySlot r).arb = s.arb := rfl
@[simp] theorem State.emptySlot_steer (s : State) (r : Receiver) : (s.emptySlot r).steer = s.steer := rfl
@[simp] theorem State.emptySlot_ret (s : State) (r : Receiver) : (s.emptySlot r).ret = s.ret := rfl
@[simp] theorem State.emptySlot_duty (s : State) (r : Receiver) : (s.emptySlot r).duty = s.duty := rfl
@[simp] theorem State.emptySlot_flags (s : State) (r : Receiver) : (s.emptySlot r).flags = s.flags := rfl

/-! ### endTelegram -/

@[simp] theorem State.endTelegram_pending (s : State) : s.endTelegram.pending = s.pending := rfl
@[simp] theorem State.endTelegram_hold (s : State) : s.endTelegram.hold = s.hold := rfl
@[simp] theorem State.endTelegram_control (s : State) : s.endTelegram.control = s.control := rfl
@[simp] theorem State.endTelegram_line (s : State) : s.endTelegram.line = { s.line with receiver := .between } := rfl
@[simp] theorem State.endTelegram_outbound (s : State) : s.endTelegram.outbound = s.outbound := rfl
@[simp] theorem State.endTelegram_marker (s : State) : s.endTelegram.marker = s.marker := rfl
@[simp] theorem State.endTelegram_ch0 (s : State) : s.endTelegram.ch0 = s.ch0 := rfl
@[simp] theorem State.endTelegram_ch1 (s : State) : s.endTelegram.ch1 = s.ch1 := rfl
@[simp] theorem State.endTelegram_row0 (s : State) : s.endTelegram.row0 = s.row0 := rfl
@[simp] theorem State.endTelegram_rows (s : State) : s.endTelegram.rows = s.rows := rfl
@[simp] theorem State.endTelegram_front (s : State) : s.endTelegram.front = s.front := rfl
@[simp] theorem State.endTelegram_wheel (s : State) : s.endTelegram.wheel = s.wheel := rfl
@[simp] theorem State.endTelegram_arb (s : State) : s.endTelegram.arb = s.arb := rfl
@[simp] theorem State.endTelegram_steer (s : State) : s.endTelegram.steer = s.steer := rfl
@[simp] theorem State.endTelegram_ret (s : State) : s.endTelegram.ret = s.ret := rfl
@[simp] theorem State.endTelegram_duty (s : State) : s.endTelegram.duty = s.duty := rfl
@[simp] theorem State.endTelegram_flags (s : State) : s.endTelegram.flags = s.flags := rfl

/-! ### clashAgain -/

@[simp] theorem State.clashAgain_pending (s : State) : s.clashAgain.pending = s.pending := rfl
@[simp] theorem State.clashAgain_hold (s : State) : s.clashAgain.hold = s.hold := rfl
@[simp] theorem State.clashAgain_control (s : State) : s.clashAgain.control = s.control := rfl
@[simp] theorem State.clashAgain_line (s : State) : s.clashAgain.line = s.line := rfl
@[simp] theorem State.clashAgain_marker (s : State) : s.clashAgain.marker = s.marker := rfl
@[simp] theorem State.clashAgain_ch0 (s : State) : s.clashAgain.ch0 = s.ch0 := rfl
@[simp] theorem State.clashAgain_ch1 (s : State) : s.clashAgain.ch1 = s.ch1 := rfl
@[simp] theorem State.clashAgain_row0 (s : State) : s.clashAgain.row0 = s.row0 := rfl
@[simp] theorem State.clashAgain_rows (s : State) : s.clashAgain.rows = s.rows := rfl
@[simp] theorem State.clashAgain_front (s : State) : s.clashAgain.front = s.front := rfl
@[simp] theorem State.clashAgain_wheel (s : State) : s.clashAgain.wheel = s.wheel := rfl
@[simp] theorem State.clashAgain_arb (s : State) : s.clashAgain.arb = s.arb := rfl
@[simp] theorem State.clashAgain_steer (s : State) : s.clashAgain.steer = s.steer := rfl
@[simp] theorem State.clashAgain_ret (s : State) : s.clashAgain.ret = s.ret := rfl
@[simp] theorem State.clashAgain_duty (s : State) : s.clashAgain.duty = s.duty := rfl
@[simp] theorem State.clashAgain_flags (s : State) :
    s.clashAgain.flags = s.flags ||| EventCode.bit .stationClash := rfl

/-! ### convert -/

@[simp] theorem State.convert_pending (s : State) (i : Fin 4) (raw : BitVec 12) :
    (s.convert i raw).pending = s.pending := rfl
@[simp] theorem State.convert_hold (s : State) (i : Fin 4) (raw : BitVec 12) : (s.convert i raw).hold = s.hold := rfl
@[simp] theorem State.convert_control (s : State) (i : Fin 4) (raw : BitVec 12) :
    (s.convert i raw).control = s.control := rfl
@[simp] theorem State.convert_line (s : State) (i : Fin 4) (raw : BitVec 12) : (s.convert i raw).line = s.line := rfl
@[simp] theorem State.convert_outbound (s : State) (i : Fin 4) (raw : BitVec 12) :
    (s.convert i raw).outbound = s.outbound := rfl
@[simp] theorem State.convert_marker (s : State) (i : Fin 4) (raw : BitVec 12) :
    (s.convert i raw).marker = s.marker := rfl
@[simp] theorem State.convert_ch0 (s : State) (i : Fin 4) (raw : BitVec 12) : (s.convert i raw).ch0 = s.ch0 := rfl
@[simp] theorem State.convert_ch1 (s : State) (i : Fin 4) (raw : BitVec 12) : (s.convert i raw).ch1 = s.ch1 := rfl
@[simp] theorem State.convert_row0 (s : State) (i : Fin 4) (raw : BitVec 12) : (s.convert i raw).row0 = s.row0 := rfl
@[simp] theorem State.convert_rows (s : State) (i : Fin 4) (raw : BitVec 12) : (s.convert i raw).rows = s.rows := rfl
@[simp] theorem State.convert_wheel (s : State) (i : Fin 4) (raw : BitVec 12) :
    (s.convert i raw).wheel = s.wheel := rfl
@[simp] theorem State.convert_arb (s : State) (i : Fin 4) (raw : BitVec 12) : (s.convert i raw).arb = s.arb := rfl
@[simp] theorem State.convert_steer (s : State) (i : Fin 4) (raw : BitVec 12) :
    (s.convert i raw).steer = s.steer := rfl
@[simp] theorem State.convert_ret (s : State) (i : Fin 4) (raw : BitVec 12) : (s.convert i raw).ret = s.ret := rfl
@[simp] theorem State.convert_duty (s : State) (i : Fin 4) (raw : BitVec 12) : (s.convert i raw).duty = s.duty := rfl
@[simp] theorem State.convert_flags (s : State) (i : Fin 4) (raw : BitVec 12) :
    (s.convert i raw).flags = s.flags := rfl

/-! ### powerOn -/

@[simp] theorem State.powerOn_pending (s : State) (hold : ResetHold) : (s.powerOn hold).pending = s.pending := rfl
@[simp] theorem State.powerOn_hold (s : State) (hold : ResetHold) : (s.powerOn hold).hold = hold := rfl
@[simp] theorem State.powerOn_control (s : State) (hold : ResetHold) :
    (s.powerOn hold).control = State.reset.control := rfl
@[simp] theorem State.powerOn_line (s : State) (hold : ResetHold) : (s.powerOn hold).line = State.reset.line := rfl
@[simp] theorem State.powerOn_outbound (s : State) (hold : ResetHold) :
    (s.powerOn hold).outbound = State.reset.outbound := rfl
@[simp] theorem State.powerOn_marker (s : State) (hold : ResetHold) :
    (s.powerOn hold).marker = State.reset.marker := rfl
@[simp] theorem State.powerOn_ch0 (s : State) (hold : ResetHold) : (s.powerOn hold).ch0 = State.reset.ch0 := rfl
@[simp] theorem State.powerOn_ch1 (s : State) (hold : ResetHold) : (s.powerOn hold).ch1 = State.reset.ch1 := rfl
@[simp] theorem State.powerOn_row0 (s : State) (hold : ResetHold) : (s.powerOn hold).row0 = State.reset.row0 := rfl
@[simp] theorem State.powerOn_rows (s : State) (hold : ResetHold) : (s.powerOn hold).rows = State.reset.rows := rfl
@[simp] theorem State.powerOn_front (s : State) (hold : ResetHold) : (s.powerOn hold).front = State.reset.front := rfl
@[simp] theorem State.powerOn_wheel (s : State) (hold : ResetHold) : (s.powerOn hold).wheel = State.reset.wheel := rfl
@[simp] theorem State.powerOn_arb (s : State) (hold : ResetHold) : (s.powerOn hold).arb = State.reset.arb := rfl
@[simp] theorem State.powerOn_steer (s : State) (hold : ResetHold) : (s.powerOn hold).steer = State.reset.steer := rfl
@[simp] theorem State.powerOn_ret (s : State) (hold : ResetHold) : (s.powerOn hold).ret = State.reset.ret := rfl
@[simp] theorem State.powerOn_duty (s : State) (hold : ResetHold) : (s.powerOn hold).duty = State.reset.duty := rfl
@[simp] theorem State.powerOn_flags (s : State) (hold : ResetHold) : (s.powerOn hold).flags = State.reset.flags := rfl

/-! ### offer -/

@[simp] theorem State.offer_pending (s : State) (c : Content) :
    (s.offer c).pending = s.pending := by unfold State.offer; split <;> rfl
@[simp] theorem State.offer_hold (s : State) (c : Content) :
    (s.offer c).hold = s.hold := by unfold State.offer; split <;> rfl
@[simp] theorem State.offer_control (s : State) (c : Content) :
    (s.offer c).control = s.control := by unfold State.offer; split <;> rfl
@[simp] theorem State.offer_line (s : State) (c : Content) :
    (s.offer c).line = s.line := by unfold State.offer; split <;> rfl
@[simp] theorem State.offer_marker (s : State) (c : Content) :
    (s.offer c).marker = s.marker := by unfold State.offer; split <;> rfl
@[simp] theorem State.offer_ch0 (s : State) (c : Content) :
    (s.offer c).ch0 = s.ch0 := by unfold State.offer; split <;> rfl
@[simp] theorem State.offer_ch1 (s : State) (c : Content) :
    (s.offer c).ch1 = s.ch1 := by unfold State.offer; split <;> rfl
@[simp] theorem State.offer_row0 (s : State) (c : Content) :
    (s.offer c).row0 = s.row0 := by unfold State.offer; split <;> rfl
@[simp] theorem State.offer_rows (s : State) (c : Content) :
    (s.offer c).rows = s.rows := by unfold State.offer; split <;> rfl
@[simp] theorem State.offer_front (s : State) (c : Content) :
    (s.offer c).front = s.front := by unfold State.offer; split <;> rfl
@[simp] theorem State.offer_wheel (s : State) (c : Content) :
    (s.offer c).wheel = s.wheel := by unfold State.offer; split <;> rfl
@[simp] theorem State.offer_arb (s : State) (c : Content) :
    (s.offer c).arb = s.arb := by unfold State.offer; split <;> rfl
@[simp] theorem State.offer_steer (s : State) (c : Content) :
    (s.offer c).steer = s.steer := by unfold State.offer; split <;> rfl
@[simp] theorem State.offer_ret (s : State) (c : Content) :
    (s.offer c).ret = s.ret := by unfold State.offer; split <;> rfl
@[simp] theorem State.offer_duty (s : State) (c : Content) :
    (s.offer c).duty = s.duty := by unfold State.offer; split <;> rfl
@[simp] theorem State.offer_flags (s : State) (c : Content) :
    (s.offer c).flags = s.flags := by unfold State.offer; split <;> rfl

/-! ### raise -/

@[simp] theorem State.raise_pending (s : State) (c : EventCode) (d : Int) :
    (s.raise c d).pending = s.pending := by unfold State.raise; split <;> simp
@[simp] theorem State.raise_hold (s : State) (c : EventCode) (d : Int) :
    (s.raise c d).hold = s.hold := by unfold State.raise; split <;> simp
@[simp] theorem State.raise_control (s : State) (c : EventCode) (d : Int) :
    (s.raise c d).control = s.control := by unfold State.raise; split <;> simp
@[simp] theorem State.raise_line (s : State) (c : EventCode) (d : Int) :
    (s.raise c d).line = s.line := by unfold State.raise; split <;> simp
@[simp] theorem State.raise_marker (s : State) (c : EventCode) (d : Int) :
    (s.raise c d).marker = s.marker := by unfold State.raise; split <;> simp
@[simp] theorem State.raise_ch0 (s : State) (c : EventCode) (d : Int) :
    (s.raise c d).ch0 = s.ch0 := by unfold State.raise; split <;> simp
@[simp] theorem State.raise_ch1 (s : State) (c : EventCode) (d : Int) :
    (s.raise c d).ch1 = s.ch1 := by unfold State.raise; split <;> simp
@[simp] theorem State.raise_row0 (s : State) (c : EventCode) (d : Int) :
    (s.raise c d).row0 = s.row0 := by unfold State.raise; split <;> simp
@[simp] theorem State.raise_rows (s : State) (c : EventCode) (d : Int) :
    (s.raise c d).rows = s.rows := by unfold State.raise; split <;> simp
@[simp] theorem State.raise_front (s : State) (c : EventCode) (d : Int) :
    (s.raise c d).front = s.front := by unfold State.raise; split <;> simp
@[simp] theorem State.raise_wheel (s : State) (c : EventCode) (d : Int) :
    (s.raise c d).wheel = s.wheel := by unfold State.raise; split <;> simp
@[simp] theorem State.raise_arb (s : State) (c : EventCode) (d : Int) :
    (s.raise c d).arb = s.arb := by unfold State.raise; split <;> simp
@[simp] theorem State.raise_steer (s : State) (c : EventCode) (d : Int) :
    (s.raise c d).steer = s.steer := by unfold State.raise; split <;> simp
@[simp] theorem State.raise_ret (s : State) (c : EventCode) (d : Int) :
    (s.raise c d).ret = s.ret := by unfold State.raise; split <;> simp
@[simp] theorem State.raise_duty (s : State) (c : EventCode) (d : Int) :
    (s.raise c d).duty = s.duty := by unfold State.raise; split <;> simp

/-! ### raiseAll -/

@[simp] theorem State.raiseAll_pending (s : State) (l : List Raise) :
    (s.raiseAll l).pending = s.pending := by
  induction l generalizing s with
  | nil => rfl
  | cons r l ih => exact (ih (s.raise r.1 r.2)).trans (by simp)
@[simp] theorem State.raiseAll_hold (s : State) (l : List Raise) :
    (s.raiseAll l).hold = s.hold := by
  induction l generalizing s with
  | nil => rfl
  | cons r l ih => exact (ih (s.raise r.1 r.2)).trans (by simp)
@[simp] theorem State.raiseAll_control (s : State) (l : List Raise) :
    (s.raiseAll l).control = s.control := by
  induction l generalizing s with
  | nil => rfl
  | cons r l ih => exact (ih (s.raise r.1 r.2)).trans (by simp)
@[simp] theorem State.raiseAll_line (s : State) (l : List Raise) :
    (s.raiseAll l).line = s.line := by
  induction l generalizing s with
  | nil => rfl
  | cons r l ih => exact (ih (s.raise r.1 r.2)).trans (by simp)
@[simp] theorem State.raiseAll_marker (s : State) (l : List Raise) :
    (s.raiseAll l).marker = s.marker := by
  induction l generalizing s with
  | nil => rfl
  | cons r l ih => exact (ih (s.raise r.1 r.2)).trans (by simp)
@[simp] theorem State.raiseAll_ch0 (s : State) (l : List Raise) :
    (s.raiseAll l).ch0 = s.ch0 := by
  induction l generalizing s with
  | nil => rfl
  | cons r l ih => exact (ih (s.raise r.1 r.2)).trans (by simp)
@[simp] theorem State.raiseAll_ch1 (s : State) (l : List Raise) :
    (s.raiseAll l).ch1 = s.ch1 := by
  induction l generalizing s with
  | nil => rfl
  | cons r l ih => exact (ih (s.raise r.1 r.2)).trans (by simp)
@[simp] theorem State.raiseAll_row0 (s : State) (l : List Raise) :
    (s.raiseAll l).row0 = s.row0 := by
  induction l generalizing s with
  | nil => rfl
  | cons r l ih => exact (ih (s.raise r.1 r.2)).trans (by simp)
@[simp] theorem State.raiseAll_rows (s : State) (l : List Raise) :
    (s.raiseAll l).rows = s.rows := by
  induction l generalizing s with
  | nil => rfl
  | cons r l ih => exact (ih (s.raise r.1 r.2)).trans (by simp)
@[simp] theorem State.raiseAll_front (s : State) (l : List Raise) :
    (s.raiseAll l).front = s.front := by
  induction l generalizing s with
  | nil => rfl
  | cons r l ih => exact (ih (s.raise r.1 r.2)).trans (by simp)
@[simp] theorem State.raiseAll_wheel (s : State) (l : List Raise) :
    (s.raiseAll l).wheel = s.wheel := by
  induction l generalizing s with
  | nil => rfl
  | cons r l ih => exact (ih (s.raise r.1 r.2)).trans (by simp)
@[simp] theorem State.raiseAll_arb (s : State) (l : List Raise) :
    (s.raiseAll l).arb = s.arb := by
  induction l generalizing s with
  | nil => rfl
  | cons r l ih => exact (ih (s.raise r.1 r.2)).trans (by simp)
@[simp] theorem State.raiseAll_steer (s : State) (l : List Raise) :
    (s.raiseAll l).steer = s.steer := by
  induction l generalizing s with
  | nil => rfl
  | cons r l ih => exact (ih (s.raise r.1 r.2)).trans (by simp)
@[simp] theorem State.raiseAll_ret (s : State) (l : List Raise) :
    (s.raiseAll l).ret = s.ret := by
  induction l generalizing s with
  | nil => rfl
  | cons r l ih => exact (ih (s.raise r.1 r.2)).trans (by simp)
@[simp] theorem State.raiseAll_duty (s : State) (l : List Raise) :
    (s.raiseAll l).duty = s.duty := by
  induction l generalizing s with
  | nil => rfl
  | cons r l ih => exact (ih (s.raise r.1 r.2)).trans (by simp)

/-! ### checkMark -/

@[simp] theorem State.checkMark_pending (s : State) (n : Half) :
    (s.checkMark n).pending = s.pending := by unfold State.checkMark; split <;> simp
@[simp] theorem State.checkMark_hold (s : State) (n : Half) :
    (s.checkMark n).hold = s.hold := by unfold State.checkMark; split <;> simp
@[simp] theorem State.checkMark_control (s : State) (n : Half) :
    (s.checkMark n).control = s.control := by unfold State.checkMark; split <;> simp
@[simp] theorem State.checkMark_line (s : State) (n : Half) :
    (s.checkMark n).line = s.line := by unfold State.checkMark; split <;> simp
@[simp] theorem State.checkMark_marker (s : State) (n : Half) :
    (s.checkMark n).marker = s.marker := by unfold State.checkMark; split <;> simp
@[simp] theorem State.checkMark_ch0 (s : State) (n : Half) :
    (s.checkMark n).ch0 = s.ch0 := by unfold State.checkMark; split <;> simp
@[simp] theorem State.checkMark_ch1 (s : State) (n : Half) :
    (s.checkMark n).ch1 = s.ch1 := by unfold State.checkMark; split <;> simp
@[simp] theorem State.checkMark_row0 (s : State) (n : Half) :
    (s.checkMark n).row0 = s.row0 := by unfold State.checkMark; split <;> simp
@[simp] theorem State.checkMark_rows (s : State) (n : Half) :
    (s.checkMark n).rows = s.rows := by unfold State.checkMark; split <;> simp
@[simp] theorem State.checkMark_front (s : State) (n : Half) :
    (s.checkMark n).front = s.front := by unfold State.checkMark; split <;> simp
@[simp] theorem State.checkMark_wheel (s : State) (n : Half) :
    (s.checkMark n).wheel = s.wheel := by unfold State.checkMark; split <;> simp
@[simp] theorem State.checkMark_arb (s : State) (n : Half) :
    (s.checkMark n).arb = s.arb := by unfold State.checkMark; split <;> simp
@[simp] theorem State.checkMark_steer (s : State) (n : Half) :
    (s.checkMark n).steer = s.steer := by unfold State.checkMark; split <;> simp
@[simp] theorem State.checkMark_ret (s : State) (n : Half) :
    (s.checkMark n).ret = s.ret := by unfold State.checkMark; split <;> simp
@[simp] theorem State.checkMark_duty (s : State) (n : Half) :
    (s.checkMark n).duty = s.duty := by unfold State.checkMark; split <;> simp

/-! ### handoff -/

@[simp] theorem State.handoff_pending (s : State) :
    s.handoff.pending = s.pending := by unfold State.handoff; split <;> rfl
@[simp] theorem State.handoff_hold (s : State) : s.handoff.hold = s.hold := by unfold State.handoff; split <;> rfl
@[simp] theorem State.handoff_control (s : State) :
    s.handoff.control = s.control := by unfold State.handoff; split <;> rfl
@[simp] theorem State.handoff_line (s : State) : s.handoff.line = s.line := by unfold State.handoff; split <;> rfl
@[simp] theorem State.handoff_outbound (s : State) :
    s.handoff.outbound = s.outbound := by unfold State.handoff; split <;> rfl
@[simp] theorem State.handoff_marker (s : State) :
    s.handoff.marker = s.marker := by unfold State.handoff; split <;> rfl
@[simp] theorem State.handoff_ch0 (s : State) : s.handoff.ch0 = s.ch0 := by unfold State.handoff; split <;> rfl
@[simp] theorem State.handoff_ch1 (s : State) : s.handoff.ch1 = s.ch1 := by unfold State.handoff; split <;> rfl
@[simp] theorem State.handoff_row0 (s : State) : s.handoff.row0 = s.row0 := by unfold State.handoff; split <;> rfl
@[simp] theorem State.handoff_rows (s : State) : s.handoff.rows = s.rows := by unfold State.handoff; split <;> rfl
@[simp] theorem State.handoff_front (s : State) : s.handoff.front = s.front := by unfold State.handoff; split <;> rfl
@[simp] theorem State.handoff_wheel (s : State) : s.handoff.wheel = s.wheel := by unfold State.handoff; split <;> rfl
@[simp] theorem State.handoff_steer (s : State) : s.handoff.steer = s.steer := by unfold State.handoff; split <;> rfl
@[simp] theorem State.handoff_ret (s : State) : s.handoff.ret = s.ret := by unfold State.handoff; split <;> rfl
@[simp] theorem State.handoff_duty (s : State) : s.handoff.duty = s.duty := by unfold State.handoff; split <;> rfl
@[simp] theorem State.handoff_flags (s : State) : s.handoff.flags = s.flags := by unfold State.handoff; split <;> rfl

/-! ### heardFrom -/

@[simp] theorem State.heardFrom_pending (s : State) (n : Nibble) :
    (s.heardFrom n).pending = s.pending := by unfold State.heardFrom; split <;> rfl
@[simp] theorem State.heardFrom_hold (s : State) (n : Nibble) :
    (s.heardFrom n).hold = s.hold := by unfold State.heardFrom; split <;> rfl
@[simp] theorem State.heardFrom_control (s : State) (n : Nibble) :
    (s.heardFrom n).control = s.control := by unfold State.heardFrom; split <;> rfl
@[simp] theorem State.heardFrom_outbound (s : State) (n : Nibble) :
    (s.heardFrom n).outbound = s.outbound := by unfold State.heardFrom; split <;> rfl
@[simp] theorem State.heardFrom_marker (s : State) (n : Nibble) :
    (s.heardFrom n).marker = s.marker := by unfold State.heardFrom; split <;> rfl
@[simp] theorem State.heardFrom_ch0 (s : State) (n : Nibble) :
    (s.heardFrom n).ch0 = s.ch0 := by unfold State.heardFrom; split <;> rfl
@[simp] theorem State.heardFrom_ch1 (s : State) (n : Nibble) :
    (s.heardFrom n).ch1 = s.ch1 := by unfold State.heardFrom; split <;> rfl
@[simp] theorem State.heardFrom_row0 (s : State) (n : Nibble) :
    (s.heardFrom n).row0 = s.row0 := by unfold State.heardFrom; split <;> rfl
@[simp] theorem State.heardFrom_rows (s : State) (n : Nibble) :
    (s.heardFrom n).rows = s.rows := by unfold State.heardFrom; split <;> rfl
@[simp] theorem State.heardFrom_front (s : State) (n : Nibble) :
    (s.heardFrom n).front = s.front := by unfold State.heardFrom; split <;> rfl
@[simp] theorem State.heardFrom_wheel (s : State) (n : Nibble) :
    (s.heardFrom n).wheel = s.wheel := by unfold State.heardFrom; split <;> rfl
@[simp] theorem State.heardFrom_arb (s : State) (n : Nibble) :
    (s.heardFrom n).arb = s.arb := by unfold State.heardFrom; split <;> rfl
@[simp] theorem State.heardFrom_steer (s : State) (n : Nibble) :
    (s.heardFrom n).steer = s.steer := by unfold State.heardFrom; split <;> rfl
@[simp] theorem State.heardFrom_ret (s : State) (n : Nibble) :
    (s.heardFrom n).ret = s.ret := by unfold State.heardFrom; split <;> rfl
@[simp] theorem State.heardFrom_duty (s : State) (n : Nibble) :
    (s.heardFrom n).duty = s.duty := by unfold State.heardFrom; split <;> rfl
@[simp] theorem State.heardFrom_flags (s : State) (n : Nibble) :
    (s.heardFrom n).flags = s.flags := by unfold State.heardFrom; split <;> rfl

/-! ### offerReport -/

@[simp] theorem State.offerReport_pending (s : State) :
    s.offerReport.pending = s.pending := by simp [State.offerReport]
@[simp] theorem State.offerReport_hold (s : State) : s.offerReport.hold = s.hold := by simp [State.offerReport]
@[simp] theorem State.offerReport_control (s : State) :
    s.offerReport.control = s.control := by simp [State.offerReport]
@[simp] theorem State.offerReport_line (s : State) : s.offerReport.line = s.line := by simp [State.offerReport]
@[simp] theorem State.offerReport_marker (s : State) : s.offerReport.marker = s.marker := by simp [State.offerReport]
@[simp] theorem State.offerReport_ch0 (s : State) : s.offerReport.ch0 = s.ch0 := by simp [State.offerReport]
@[simp] theorem State.offerReport_ch1 (s : State) : s.offerReport.ch1 = s.ch1 := by simp [State.offerReport]
@[simp] theorem State.offerReport_row0 (s : State) : s.offerReport.row0 = s.row0 := by simp [State.offerReport]
@[simp] theorem State.offerReport_rows (s : State) : s.offerReport.rows = s.rows := by simp [State.offerReport]
@[simp] theorem State.offerReport_front (s : State) : s.offerReport.front = s.front := by simp [State.offerReport]
@[simp] theorem State.offerReport_wheel (s : State) : s.offerReport.wheel = s.wheel := by simp [State.offerReport]
@[simp] theorem State.offerReport_arb (s : State) : s.offerReport.arb = s.arb := by simp [State.offerReport]
@[simp] theorem State.offerReport_steer (s : State) : s.offerReport.steer = s.steer := by simp [State.offerReport]
@[simp] theorem State.offerReport_ret (s : State) : s.offerReport.ret = s.ret := by simp [State.offerReport]
@[simp] theorem State.offerReport_duty (s : State) : s.offerReport.duty = s.duty := by simp [State.offerReport]
@[simp] theorem State.offerReport_flags (s : State) : s.offerReport.flags = s.flags := by simp [State.offerReport]

/-! ### validate -/

@[simp] theorem State.validate_pending (s : State) :
    s.validate.pending = s.pending := by unfold State.validate; split <;> rfl
@[simp] theorem State.validate_hold (s : State) : s.validate.hold = s.hold := by unfold State.validate; split <;> rfl
@[simp] theorem State.validate_line (s : State) : s.validate.line = s.line := by unfold State.validate; split <;> rfl
@[simp] theorem State.validate_outbound (s : State) :
    s.validate.outbound = s.outbound := by unfold State.validate; split <;> rfl
@[simp] theorem State.validate_marker (s : State) :
    s.validate.marker = s.marker := by unfold State.validate; split <;> rfl
@[simp] theorem State.validate_ch0 (s : State) : s.validate.ch0 = s.ch0 := by unfold State.validate; split <;> rfl
@[simp] theorem State.validate_ch1 (s : State) : s.validate.ch1 = s.ch1 := by unfold State.validate; split <;> rfl
@[simp] theorem State.validate_row0 (s : State) : s.validate.row0 = s.row0 := by unfold State.validate; split <;> rfl
@[simp] theorem State.validate_rows (s : State) : s.validate.rows = s.rows := by unfold State.validate; split <;> rfl
@[simp] theorem State.validate_front (s : State) :
    s.validate.front = s.front := by unfold State.validate; split <;> rfl
@[simp] theorem State.validate_wheel (s : State) :
    s.validate.wheel = s.wheel := by unfold State.validate; split <;> rfl
@[simp] theorem State.validate_arb (s : State) : s.validate.arb = s.arb := by unfold State.validate; split <;> rfl
@[simp] theorem State.validate_steer (s : State) :
    s.validate.steer = s.steer := by unfold State.validate; split <;> rfl
@[simp] theorem State.validate_ret (s : State) : s.validate.ret = s.ret := by unfold State.validate; split <;> rfl
@[simp] theorem State.validate_duty (s : State) : s.validate.duty = s.duty := by unfold State.validate; split <;> rfl
@[simp] theorem State.validate_flags (s : State) :
    s.validate.flags = s.flags := by unfold State.validate; split <;> rfl

/-! ### windowMark -/

@[simp] theorem State.windowMark_pending (s : State) :
    s.windowMark.pending = s.pending := by
  unfold State.windowMark; split
  · dsimp only; split <;> simp
  · rfl
@[simp] theorem State.windowMark_hold (s : State) :
    s.windowMark.hold = s.hold := by
  unfold State.windowMark; split
  · dsimp only; split <;> simp
  · rfl
@[simp] theorem State.windowMark_line (s : State) :
    s.windowMark.line = s.line := by
  unfold State.windowMark; split
  · dsimp only; split <;> simp
  · rfl
@[simp] theorem State.windowMark_outbound (s : State) :
    s.windowMark.outbound = s.outbound := by
  unfold State.windowMark; split
  · dsimp only; split <;> simp
  · rfl
@[simp] theorem State.windowMark_marker (s : State) :
    s.windowMark.marker = s.marker := by
  unfold State.windowMark; split
  · dsimp only; split <;> simp
  · rfl
@[simp] theorem State.windowMark_ch0 (s : State) :
    s.windowMark.ch0 = s.ch0 := by
  unfold State.windowMark; split
  · dsimp only; split <;> simp
  · rfl
@[simp] theorem State.windowMark_ch1 (s : State) :
    s.windowMark.ch1 = s.ch1 := by
  unfold State.windowMark; split
  · dsimp only; split <;> simp
  · rfl
@[simp] theorem State.windowMark_row0 (s : State) :
    s.windowMark.row0 = s.row0 := by
  unfold State.windowMark; split
  · dsimp only; split <;> simp
  · rfl
@[simp] theorem State.windowMark_rows (s : State) :
    s.windowMark.rows = s.rows := by
  unfold State.windowMark; split
  · dsimp only; split <;> simp
  · rfl
@[simp] theorem State.windowMark_front (s : State) :
    s.windowMark.front = s.front := by
  unfold State.windowMark; split
  · dsimp only; split <;> simp
  · rfl
@[simp] theorem State.windowMark_wheel (s : State) :
    s.windowMark.wheel = s.wheel := by
  unfold State.windowMark; split
  · dsimp only; split <;> simp
  · rfl
@[simp] theorem State.windowMark_arb (s : State) :
    s.windowMark.arb = s.arb := by
  unfold State.windowMark; split
  · dsimp only; split <;> simp
  · rfl
@[simp] theorem State.windowMark_steer (s : State) :
    s.windowMark.steer = s.steer := by
  unfold State.windowMark; split
  · dsimp only; split <;> simp
  · rfl
@[simp] theorem State.windowMark_ret (s : State) :
    s.windowMark.ret = s.ret := by
  unfold State.windowMark; split
  · dsimp only; split <;> simp
  · rfl
@[simp] theorem State.windowMark_duty (s : State) :
    s.windowMark.duty = s.duty := by
  unfold State.windowMark; split
  · dsimp only; split <;> simp
  · rfl
@[simp] theorem State.windowMark_flags (s : State) :
    s.windowMark.flags = s.flags := by
  unfold State.windowMark; split
  · dsimp only; split <;> simp
  · rfl

/-! ### ageRows -/

@[simp] theorem State.ageRows_pending (s : State) : s.ageRows.pending = s.pending := by simp [State.ageRows]
@[simp] theorem State.ageRows_hold (s : State) : s.ageRows.hold = s.hold := by simp [State.ageRows]
@[simp] theorem State.ageRows_control (s : State) : s.ageRows.control = s.control := by simp [State.ageRows]
@[simp] theorem State.ageRows_line (s : State) : s.ageRows.line = s.line := by simp [State.ageRows]
@[simp] theorem State.ageRows_marker (s : State) : s.ageRows.marker = s.marker := by simp [State.ageRows]
@[simp] theorem State.ageRows_ch0 (s : State) : s.ageRows.ch0 = s.ch0 := by simp [State.ageRows]
@[simp] theorem State.ageRows_ch1 (s : State) : s.ageRows.ch1 = s.ch1 := by simp [State.ageRows]
@[simp] theorem State.ageRows_front (s : State) : s.ageRows.front = s.front := by simp [State.ageRows]
@[simp] theorem State.ageRows_wheel (s : State) : s.ageRows.wheel = s.wheel := by simp [State.ageRows]
@[simp] theorem State.ageRows_arb (s : State) : s.ageRows.arb = s.arb := by simp [State.ageRows]
@[simp] theorem State.ageRows_steer (s : State) : s.ageRows.steer = s.steer := by simp [State.ageRows]
@[simp] theorem State.ageRows_ret (s : State) : s.ageRows.ret = s.ret := by simp [State.ageRows]
@[simp] theorem State.ageRows_duty (s : State) : s.ageRows.duty = s.duty := by simp [State.ageRows]

/-! ### timerExpired -/

@[simp] theorem State.timerExpired_pending (s : State) :
    s.timerExpired.pending = s.pending := by simp [State.timerExpired]
@[simp] theorem State.timerExpired_hold (s : State) : s.timerExpired.hold = s.hold := by simp [State.timerExpired]
@[simp] theorem State.timerExpired_control (s : State) :
    s.timerExpired.control = s.control := by simp [State.timerExpired]
@[simp] theorem State.timerExpired_line (s : State) : s.timerExpired.line = s.line := by simp [State.timerExpired]
@[simp] theorem State.timerExpired_ch0 (s : State) : s.timerExpired.ch0 = s.ch0 := by simp [State.timerExpired]
@[simp] theorem State.timerExpired_ch1 (s : State) : s.timerExpired.ch1 = s.ch1 := by simp [State.timerExpired]
@[simp] theorem State.timerExpired_row0 (s : State) : s.timerExpired.row0 = s.row0 := by simp [State.timerExpired]
@[simp] theorem State.timerExpired_rows (s : State) : s.timerExpired.rows = s.rows := by simp [State.timerExpired]
@[simp] theorem State.timerExpired_front (s : State) : s.timerExpired.front = s.front := by simp [State.timerExpired]
@[simp] theorem State.timerExpired_wheel (s : State) : s.timerExpired.wheel = s.wheel := by simp [State.timerExpired]
@[simp] theorem State.timerExpired_arb (s : State) : s.timerExpired.arb = s.arb := by simp [State.timerExpired]
@[simp] theorem State.timerExpired_steer (s : State) : s.timerExpired.steer = s.steer := by simp [State.timerExpired]
@[simp] theorem State.timerExpired_ret (s : State) : s.timerExpired.ret = s.ret := by simp [State.timerExpired]
@[simp] theorem State.timerExpired_duty (s : State) : s.timerExpired.duty = s.duty := by simp [State.timerExpired]
@[simp] theorem State.timerExpired_flags (s : State) : s.timerExpired.flags = s.flags := by simp [State.timerExpired]

/-! ### samplePulse -/

@[simp] theorem State.samplePulse_pending (s : State) (i : PulseInput) (l : Level) :
    (s.samplePulse i l).pending = s.pending := by cases i <;> rfl
@[simp] theorem State.samplePulse_hold (s : State) (i : PulseInput) (l : Level) :
    (s.samplePulse i l).hold = s.hold := by cases i <;> rfl
@[simp] theorem State.samplePulse_control (s : State) (i : PulseInput) (l : Level) :
    (s.samplePulse i l).control = s.control := by cases i <;> rfl
@[simp] theorem State.samplePulse_line (s : State) (i : PulseInput) (l : Level) :
    (s.samplePulse i l).line = s.line := by cases i <;> rfl
@[simp] theorem State.samplePulse_outbound (s : State) (i : PulseInput) (l : Level) :
    (s.samplePulse i l).outbound = s.outbound := by cases i <;> rfl
@[simp] theorem State.samplePulse_marker (s : State) (i : PulseInput) (l : Level) :
    (s.samplePulse i l).marker = s.marker := by cases i <;> rfl
@[simp] theorem State.samplePulse_ch0 (s : State) (i : PulseInput) (l : Level) :
    (s.samplePulse i l).ch0 = s.ch0 := by cases i <;> rfl
@[simp] theorem State.samplePulse_ch1 (s : State) (i : PulseInput) (l : Level) :
    (s.samplePulse i l).ch1 = s.ch1 := by cases i <;> rfl
@[simp] theorem State.samplePulse_row0 (s : State) (i : PulseInput) (l : Level) :
    (s.samplePulse i l).row0 = s.row0 := by cases i <;> rfl
@[simp] theorem State.samplePulse_rows (s : State) (i : PulseInput) (l : Level) :
    (s.samplePulse i l).rows = s.rows := by cases i <;> rfl
@[simp] theorem State.samplePulse_wheel (s : State) (i : PulseInput) (l : Level) :
    (s.samplePulse i l).wheel = s.wheel := by cases i <;> rfl
@[simp] theorem State.samplePulse_arb (s : State) (i : PulseInput) (l : Level) :
    (s.samplePulse i l).arb = s.arb := by cases i <;> rfl
@[simp] theorem State.samplePulse_steer (s : State) (i : PulseInput) (l : Level) :
    (s.samplePulse i l).steer = s.steer := by cases i <;> rfl
@[simp] theorem State.samplePulse_ret (s : State) (i : PulseInput) (l : Level) :
    (s.samplePulse i l).ret = s.ret := by cases i <;> rfl
@[simp] theorem State.samplePulse_duty (s : State) (i : PulseInput) (l : Level) :
    (s.samplePulse i l).duty = s.duty := by cases i <;> rfl
@[simp] theorem State.samplePulse_flags (s : State) (i : PulseInput) (l : Level) :
    (s.samplePulse i l).flags = s.flags := by cases i <;> rfl

/-! ### treatInput -/

@[simp] theorem State.treatInput_pending (s : State) (i : Fin 4) :
    (s.treatInput i).pending = s.pending := by unfold State.treatInput; dsimp only; split <;> simp
@[simp] theorem State.treatInput_hold (s : State) (i : Fin 4) :
    (s.treatInput i).hold = s.hold := by unfold State.treatInput; dsimp only; split <;> simp
@[simp] theorem State.treatInput_control (s : State) (i : Fin 4) :
    (s.treatInput i).control = s.control := by unfold State.treatInput; dsimp only; split <;> simp
@[simp] theorem State.treatInput_line (s : State) (i : Fin 4) :
    (s.treatInput i).line = s.line := by unfold State.treatInput; dsimp only; split <;> simp
@[simp] theorem State.treatInput_marker (s : State) (i : Fin 4) :
    (s.treatInput i).marker = s.marker := by unfold State.treatInput; dsimp only; split <;> simp
@[simp] theorem State.treatInput_ch0 (s : State) (i : Fin 4) :
    (s.treatInput i).ch0 = s.ch0 := by unfold State.treatInput; dsimp only; split <;> simp
@[simp] theorem State.treatInput_ch1 (s : State) (i : Fin 4) :
    (s.treatInput i).ch1 = s.ch1 := by unfold State.treatInput; dsimp only; split <;> simp
@[simp] theorem State.treatInput_row0 (s : State) (i : Fin 4) :
    (s.treatInput i).row0 = s.row0 := by unfold State.treatInput; dsimp only; split <;> simp
@[simp] theorem State.treatInput_rows (s : State) (i : Fin 4) :
    (s.treatInput i).rows = s.rows := by unfold State.treatInput; dsimp only; split <;> simp
@[simp] theorem State.treatInput_wheel (s : State) (i : Fin 4) :
    (s.treatInput i).wheel = s.wheel := by unfold State.treatInput; dsimp only; split <;> simp
@[simp] theorem State.treatInput_arb (s : State) (i : Fin 4) :
    (s.treatInput i).arb = s.arb := by unfold State.treatInput; dsimp only; split <;> simp
@[simp] theorem State.treatInput_steer (s : State) (i : Fin 4) :
    (s.treatInput i).steer = s.steer := by unfold State.treatInput; dsimp only; split <;> simp
@[simp] theorem State.treatInput_ret (s : State) (i : Fin 4) :
    (s.treatInput i).ret = s.ret := by unfold State.treatInput; dsimp only; split <;> simp
@[simp] theorem State.treatInput_duty (s : State) (i : Fin 4) :
    (s.treatInput i).duty = s.duty := by unfold State.treatInput; dsimp only; split <;> simp

/-! ### formPair -/

@[simp] theorem State.formPair_pending (s : State) : s.formPair.pending = s.pending := by simp [State.formPair]
@[simp] theorem State.formPair_hold (s : State) : s.formPair.hold = s.hold := by simp [State.formPair]
@[simp] theorem State.formPair_control (s : State) : s.formPair.control = s.control := by simp [State.formPair]
@[simp] theorem State.formPair_line (s : State) : s.formPair.line = s.line := by simp [State.formPair]
@[simp] theorem State.formPair_marker (s : State) : s.formPair.marker = s.marker := by simp [State.formPair]
@[simp] theorem State.formPair_ch0 (s : State) : s.formPair.ch0 = s.ch0 := by simp [State.formPair]
@[simp] theorem State.formPair_ch1 (s : State) : s.formPair.ch1 = s.ch1 := by simp [State.formPair]
@[simp] theorem State.formPair_row0 (s : State) : s.formPair.row0 = s.row0 := by simp [State.formPair]
@[simp] theorem State.formPair_rows (s : State) : s.formPair.rows = s.rows := by simp [State.formPair]
@[simp] theorem State.formPair_wheel (s : State) : s.formPair.wheel = s.wheel := by simp [State.formPair]
@[simp] theorem State.formPair_arb (s : State) : s.formPair.arb = s.arb := by simp [State.formPair]
@[simp] theorem State.formPair_steer (s : State) : s.formPair.steer = s.steer := by simp [State.formPair]
@[simp] theorem State.formPair_ret (s : State) : s.formPair.ret = s.ret := by simp [State.formPair]
@[simp] theorem State.formPair_duty (s : State) : s.formPair.duty = s.duty := by simp [State.formPair]

/-! ### offerAnswer -/

@[simp] theorem State.offerAnswer_pending (s : State) (i : Byte) (a : AnswerStatus) :
    (s.offerAnswer i a).pending = s.pending := by simp [State.offerAnswer]
@[simp] theorem State.offerAnswer_hold (s : State) (i : Byte) (a : AnswerStatus) :
    (s.offerAnswer i a).hold = s.hold := by simp [State.offerAnswer]
@[simp] theorem State.offerAnswer_control (s : State) (i : Byte) (a : AnswerStatus) :
    (s.offerAnswer i a).control = s.control := by simp [State.offerAnswer]
@[simp] theorem State.offerAnswer_line (s : State) (i : Byte) (a : AnswerStatus) :
    (s.offerAnswer i a).line = s.line := by simp [State.offerAnswer]
@[simp] theorem State.offerAnswer_marker (s : State) (i : Byte) (a : AnswerStatus) :
    (s.offerAnswer i a).marker = s.marker := by simp [State.offerAnswer]
@[simp] theorem State.offerAnswer_ch0 (s : State) (i : Byte) (a : AnswerStatus) :
    (s.offerAnswer i a).ch0 = s.ch0 := by simp [State.offerAnswer]
@[simp] theorem State.offerAnswer_ch1 (s : State) (i : Byte) (a : AnswerStatus) :
    (s.offerAnswer i a).ch1 = s.ch1 := by simp [State.offerAnswer]
@[simp] theorem State.offerAnswer_row0 (s : State) (i : Byte) (a : AnswerStatus) :
    (s.offerAnswer i a).row0 = s.row0 := by simp [State.offerAnswer]
@[simp] theorem State.offerAnswer_rows (s : State) (i : Byte) (a : AnswerStatus) :
    (s.offerAnswer i a).rows = s.rows := by simp [State.offerAnswer]
@[simp] theorem State.offerAnswer_front (s : State) (i : Byte) (a : AnswerStatus) :
    (s.offerAnswer i a).front = s.front := by simp [State.offerAnswer]
@[simp] theorem State.offerAnswer_wheel (s : State) (i : Byte) (a : AnswerStatus) :
    (s.offerAnswer i a).wheel = s.wheel := by simp [State.offerAnswer]
@[simp] theorem State.offerAnswer_arb (s : State) (i : Byte) (a : AnswerStatus) :
    (s.offerAnswer i a).arb = s.arb := by simp [State.offerAnswer]
@[simp] theorem State.offerAnswer_steer (s : State) (i : Byte) (a : AnswerStatus) :
    (s.offerAnswer i a).steer = s.steer := by simp [State.offerAnswer]
@[simp] theorem State.offerAnswer_ret (s : State) (i : Byte) (a : AnswerStatus) :
    (s.offerAnswer i a).ret = s.ret := by simp [State.offerAnswer]
@[simp] theorem State.offerAnswer_duty (s : State) (i : Byte) (a : AnswerStatus) :
    (s.offerAnswer i a).duty = s.duty := by simp [State.offerAnswer]
@[simp] theorem State.offerAnswer_flags (s : State) (i : Byte) (a : AnswerStatus) :
    (s.offerAnswer i a).flags = s.flags := by simp [State.offerAnswer]

/-! ### evalCounter -/

@[simp] theorem State.evalCounter_pending (s : State) (i : Fin 4) :
    (s.evalCounter i).pending = s.pending := by
  unfold State.evalCounter; split
  · rfl
  · dsimp only; split <;> simp
@[simp] theorem State.evalCounter_hold (s : State) (i : Fin 4) :
    (s.evalCounter i).hold = s.hold := by
  unfold State.evalCounter; split
  · rfl
  · dsimp only; split <;> simp
@[simp] theorem State.evalCounter_control (s : State) (i : Fin 4) :
    (s.evalCounter i).control = s.control := by
  unfold State.evalCounter; split
  · rfl
  · dsimp only; split <;> simp
@[simp] theorem State.evalCounter_line (s : State) (i : Fin 4) :
    (s.evalCounter i).line = s.line := by
  unfold State.evalCounter; split
  · rfl
  · dsimp only; split <;> simp
@[simp] theorem State.evalCounter_marker (s : State) (i : Fin 4) :
    (s.evalCounter i).marker = s.marker := by
  unfold State.evalCounter; split
  · rfl
  · dsimp only; split <;> simp
@[simp] theorem State.evalCounter_ch0 (s : State) (i : Fin 4) :
    (s.evalCounter i).ch0 = s.ch0 := by
  unfold State.evalCounter; split
  · rfl
  · dsimp only; split <;> simp
@[simp] theorem State.evalCounter_ch1 (s : State) (i : Fin 4) :
    (s.evalCounter i).ch1 = s.ch1 := by
  unfold State.evalCounter; split
  · rfl
  · dsimp only; split <;> simp
@[simp] theorem State.evalCounter_row0 (s : State) (i : Fin 4) :
    (s.evalCounter i).row0 = s.row0 := by
  unfold State.evalCounter; split
  · rfl
  · dsimp only; split <;> simp
@[simp] theorem State.evalCounter_rows (s : State) (i : Fin 4) :
    (s.evalCounter i).rows = s.rows := by
  unfold State.evalCounter; split
  · rfl
  · dsimp only; split <;> simp
@[simp] theorem State.evalCounter_front (s : State) (i : Fin 4) :
    (s.evalCounter i).front = s.front := by
  unfold State.evalCounter; split
  · rfl
  · dsimp only; split <;> simp
@[simp] theorem State.evalCounter_wheel (s : State) (i : Fin 4) :
    (s.evalCounter i).wheel = s.wheel := by
  unfold State.evalCounter; split
  · rfl
  · dsimp only; split <;> simp
@[simp] theorem State.evalCounter_arb (s : State) (i : Fin 4) :
    (s.evalCounter i).arb = s.arb := by
  unfold State.evalCounter; split
  · rfl
  · dsimp only; split <;> simp
@[simp] theorem State.evalCounter_steer (s : State) (i : Fin 4) :
    (s.evalCounter i).steer = s.steer := by
  unfold State.evalCounter; split
  · rfl
  · dsimp only; split <;> simp
@[simp] theorem State.evalCounter_ret (s : State) (i : Fin 4) :
    (s.evalCounter i).ret = s.ret := by
  unfold State.evalCounter; split
  · rfl
  · dsimp only; split <;> simp
@[simp] theorem State.evalCounter_flags (s : State) (i : Fin 4) :
    (s.evalCounter i).flags = s.flags := by
  unfold State.evalCounter; split
  · rfl
  · dsimp only; split <;> simp

/-! ### loadSlot -/

@[simp] theorem State.loadSlot_pending (s : State) :
    s.loadSlot.pending = s.pending := by unfold State.loadSlot; split <;> rfl
@[simp] theorem State.loadSlot_hold (s : State) : s.loadSlot.hold = s.hold := by unfold State.loadSlot; split <;> rfl
@[simp] theorem State.loadSlot_control (s : State) :
    s.loadSlot.control = s.control := by unfold State.loadSlot; split <;> rfl
@[simp] theorem State.loadSlot_marker (s : State) :
    s.loadSlot.marker = s.marker := by unfold State.loadSlot; split <;> rfl
@[simp] theorem State.loadSlot_ch0 (s : State) : s.loadSlot.ch0 = s.ch0 := by unfold State.loadSlot; split <;> rfl
@[simp] theorem State.loadSlot_ch1 (s : State) : s.loadSlot.ch1 = s.ch1 := by unfold State.loadSlot; split <;> rfl
@[simp] theorem State.loadSlot_row0 (s : State) : s.loadSlot.row0 = s.row0 := by unfold State.loadSlot; split <;> rfl
@[simp] theorem State.loadSlot_rows (s : State) : s.loadSlot.rows = s.rows := by unfold State.loadSlot; split <;> rfl
@[simp] theorem State.loadSlot_front (s : State) :
    s.loadSlot.front = s.front := by unfold State.loadSlot; split <;> rfl
@[simp] theorem State.loadSlot_wheel (s : State) :
    s.loadSlot.wheel = s.wheel := by unfold State.loadSlot; split <;> rfl
@[simp] theorem State.loadSlot_arb (s : State) : s.loadSlot.arb = s.arb := by unfold State.loadSlot; split <;> rfl
@[simp] theorem State.loadSlot_steer (s : State) :
    s.loadSlot.steer = s.steer := by unfold State.loadSlot; split <;> rfl
@[simp] theorem State.loadSlot_ret (s : State) : s.loadSlot.ret = s.ret := by unfold State.loadSlot; split <;> rfl
@[simp] theorem State.loadSlot_duty (s : State) : s.loadSlot.duty = s.duty := by unfold State.loadSlot; split <;> rfl
@[simp] theorem State.loadSlot_flags (s : State) :
    s.loadSlot.flags = s.flags := by unfold State.loadSlot; split <;> rfl

/-! ### tryStart -/

@[simp] theorem State.tryStart_pending (s : State) :
    s.tryStart.pending = s.pending := by unfold State.tryStart; split <;> simp
@[simp] theorem State.tryStart_hold (s : State) : s.tryStart.hold = s.hold := by unfold State.tryStart; split <;> simp
@[simp] theorem State.tryStart_control (s : State) :
    s.tryStart.control = s.control := by unfold State.tryStart; split <;> simp
@[simp] theorem State.tryStart_marker (s : State) :
    s.tryStart.marker = s.marker := by unfold State.tryStart; split <;> simp
@[simp] theorem State.tryStart_ch0 (s : State) : s.tryStart.ch0 = s.ch0 := by unfold State.tryStart; split <;> simp
@[simp] theorem State.tryStart_ch1 (s : State) : s.tryStart.ch1 = s.ch1 := by unfold State.tryStart; split <;> simp
@[simp] theorem State.tryStart_row0 (s : State) : s.tryStart.row0 = s.row0 := by unfold State.tryStart; split <;> simp
@[simp] theorem State.tryStart_rows (s : State) : s.tryStart.rows = s.rows := by unfold State.tryStart; split <;> simp
@[simp] theorem State.tryStart_front (s : State) :
    s.tryStart.front = s.front := by unfold State.tryStart; split <;> simp
@[simp] theorem State.tryStart_wheel (s : State) :
    s.tryStart.wheel = s.wheel := by unfold State.tryStart; split <;> simp
@[simp] theorem State.tryStart_arb (s : State) : s.tryStart.arb = s.arb := by unfold State.tryStart; split <;> simp
@[simp] theorem State.tryStart_steer (s : State) :
    s.tryStart.steer = s.steer := by unfold State.tryStart; split <;> simp
@[simp] theorem State.tryStart_ret (s : State) : s.tryStart.ret = s.ret := by unfold State.tryStart; split <;> simp
@[simp] theorem State.tryStart_duty (s : State) : s.tryStart.duty = s.duty := by unfold State.tryStart; split <;> simp
@[simp] theorem State.tryStart_flags (s : State) :
    s.tryStart.flags = s.flags := by unfold State.tryStart; split <;> simp

/-! ### failEntry -/

@[simp] theorem State.failEntry_pending (s : State) (e : Entry) :
    (s.failEntry e).pending = s.pending := by
  unfold State.failEntry; split
  · split <;> simp
  · rfl
@[simp] theorem State.failEntry_hold (s : State) (e : Entry) :
    (s.failEntry e).hold = s.hold := by
  unfold State.failEntry; split
  · split <;> simp
  · rfl
@[simp] theorem State.failEntry_control (s : State) (e : Entry) :
    (s.failEntry e).control = s.control := by
  unfold State.failEntry; split
  · split <;> simp
  · rfl
@[simp] theorem State.failEntry_line (s : State) (e : Entry) :
    (s.failEntry e).line = s.line := by
  unfold State.failEntry; split
  · split <;> simp
  · rfl
@[simp] theorem State.failEntry_marker (s : State) (e : Entry) :
    (s.failEntry e).marker = s.marker := by
  unfold State.failEntry; split
  · split <;> simp
  · rfl
@[simp] theorem State.failEntry_ch0 (s : State) (e : Entry) :
    (s.failEntry e).ch0 = s.ch0 := by
  unfold State.failEntry; split
  · split <;> simp
  · rfl
@[simp] theorem State.failEntry_ch1 (s : State) (e : Entry) :
    (s.failEntry e).ch1 = s.ch1 := by
  unfold State.failEntry; split
  · split <;> simp
  · rfl
@[simp] theorem State.failEntry_row0 (s : State) (e : Entry) :
    (s.failEntry e).row0 = s.row0 := by
  unfold State.failEntry; split
  · split <;> simp
  · rfl
@[simp] theorem State.failEntry_rows (s : State) (e : Entry) :
    (s.failEntry e).rows = s.rows := by
  unfold State.failEntry; split
  · split <;> simp
  · rfl
@[simp] theorem State.failEntry_front (s : State) (e : Entry) :
    (s.failEntry e).front = s.front := by
  unfold State.failEntry; split
  · split <;> simp
  · rfl
@[simp] theorem State.failEntry_wheel (s : State) (e : Entry) :
    (s.failEntry e).wheel = s.wheel := by
  unfold State.failEntry; split
  · split <;> simp
  · rfl
@[simp] theorem State.failEntry_arb (s : State) (e : Entry) :
    (s.failEntry e).arb = s.arb := by
  unfold State.failEntry; split
  · split <;> simp
  · rfl
@[simp] theorem State.failEntry_steer (s : State) (e : Entry) :
    (s.failEntry e).steer = s.steer := by
  unfold State.failEntry; split
  · split <;> simp
  · rfl
@[simp] theorem State.failEntry_ret (s : State) (e : Entry) :
    (s.failEntry e).ret = s.ret := by
  unfold State.failEntry; split
  · split <;> simp
  · rfl
@[simp] theorem State.failEntry_flags (s : State) (e : Entry) :
    (s.failEntry e).flags = s.flags := by
  unfold State.failEntry; split
  · split <;> simp
  · rfl

/-! ### enterClash -/

@[simp] theorem State.enterClash_pending (s : State) :
    s.enterClash.pending = s.pending := by unfold State.enterClash; dsimp only; split <;> simp
@[simp] theorem State.enterClash_hold (s : State) :
    s.enterClash.hold = s.hold := by unfold State.enterClash; dsimp only; split <;> simp
@[simp] theorem State.enterClash_line (s : State) :
    s.enterClash.line = s.line := by unfold State.enterClash; dsimp only; split <;> simp
@[simp] theorem State.enterClash_ch1 (s : State) :
    s.enterClash.ch1 = s.ch1 := by unfold State.enterClash; dsimp only; split <;> simp
@[simp] theorem State.enterClash_row0 (s : State) :
    s.enterClash.row0 = s.row0 := by unfold State.enterClash; dsimp only; split <;> simp
@[simp] theorem State.enterClash_rows (s : State) :
    s.enterClash.rows = s.rows := by unfold State.enterClash; dsimp only; split <;> simp
@[simp] theorem State.enterClash_front (s : State) :
    s.enterClash.front = s.front := by unfold State.enterClash; dsimp only; split <;> simp
@[simp] theorem State.enterClash_wheel (s : State) :
    s.enterClash.wheel = s.wheel := by unfold State.enterClash; dsimp only; split <;> simp
@[simp] theorem State.enterClash_arb (s : State) :
    s.enterClash.arb = s.arb := by unfold State.enterClash; dsimp only; split <;> simp
@[simp] theorem State.enterClash_steer (s : State) :
    s.enterClash.steer = s.steer := by unfold State.enterClash; dsimp only; split <;> simp
@[simp] theorem State.enterClash_ret (s : State) :
    s.enterClash.ret = s.ret := by unfold State.enterClash; dsimp only; split <;> simp
@[simp] theorem State.enterClash_duty (s : State) :
    s.enterClash.duty = s.duty := by unfold State.enterClash; dsimp only; split <;> simp

/-! ### takeReport -/

@[simp] theorem State.takeReport_pending (s : State) (n : Nat) (r : Report) :
    (s.takeReport n r).pending = s.pending := by unfold State.takeReport; dsimp only; split <;> simp
@[simp] theorem State.takeReport_hold (s : State) (n : Nat) (r : Report) :
    (s.takeReport n r).hold = s.hold := by unfold State.takeReport; dsimp only; split <;> simp
@[simp] theorem State.takeReport_control (s : State) (n : Nat) (r : Report) :
    (s.takeReport n r).control = s.control := by unfold State.takeReport; dsimp only; split <;> simp
@[simp] theorem State.takeReport_line (s : State) (n : Nat) (r : Report) :
    (s.takeReport n r).line = s.line := by unfold State.takeReport; dsimp only; split <;> simp
@[simp] theorem State.takeReport_outbound (s : State) (n : Nat) (r : Report) :
    (s.takeReport n r).outbound = s.outbound := by unfold State.takeReport; dsimp only; split <;> simp
@[simp] theorem State.takeReport_marker (s : State) (n : Nat) (r : Report) :
    (s.takeReport n r).marker = s.marker := by unfold State.takeReport; dsimp only; split <;> simp
@[simp] theorem State.takeReport_ch0 (s : State) (n : Nat) (r : Report) :
    (s.takeReport n r).ch0 = s.ch0 := by unfold State.takeReport; dsimp only; split <;> simp
@[simp] theorem State.takeReport_ch1 (s : State) (n : Nat) (r : Report) :
    (s.takeReport n r).ch1 = s.ch1 := by unfold State.takeReport; dsimp only; split <;> simp
@[simp] theorem State.takeReport_row0 (s : State) (n : Nat) (r : Report) :
    (s.takeReport n r).row0 = s.row0 := by unfold State.takeReport; dsimp only; split <;> simp
@[simp] theorem State.takeReport_front (s : State) (n : Nat) (r : Report) :
    (s.takeReport n r).front = s.front := by unfold State.takeReport; dsimp only; split <;> simp
@[simp] theorem State.takeReport_wheel (s : State) (n : Nat) (r : Report) :
    (s.takeReport n r).wheel = s.wheel := by unfold State.takeReport; dsimp only; split <;> simp
@[simp] theorem State.takeReport_steer (s : State) (n : Nat) (r : Report) :
    (s.takeReport n r).steer = s.steer := by unfold State.takeReport; dsimp only; split <;> simp
@[simp] theorem State.takeReport_ret (s : State) (n : Nat) (r : Report) :
    (s.takeReport n r).ret = s.ret := by unfold State.takeReport; dsimp only; split <;> simp
@[simp] theorem State.takeReport_duty (s : State) (n : Nat) (r : Report) :
    (s.takeReport n r).duty = s.duty := by unfold State.takeReport; dsimp only; split <;> simp
@[simp] theorem State.takeReport_flags (s : State) (n : Nat) (r : Report) :
    (s.takeReport n r).flags = s.flags := by unfold State.takeReport; dsimp only; split <;> simp

/-! ### stopArrival -/

@[simp] theorem State.stopArrival_pending (s : State) :
    s.stopArrival.pending = s.pending := by
  unfold State.stopArrival; split <;> simp
@[simp] theorem State.stopArrival_hold (s : State) :
    s.stopArrival.hold = s.hold := by
  unfold State.stopArrival; split <;> simp
@[simp] theorem State.stopArrival_control (s : State) :
    s.stopArrival.control = s.control := by
  unfold State.stopArrival; split <;> simp
@[simp] theorem State.stopArrival_line (s : State) :
    s.stopArrival.line = s.line := by
  unfold State.stopArrival; split <;> simp
@[simp] theorem State.stopArrival_marker (s : State) :
    s.stopArrival.marker = s.marker := by
  unfold State.stopArrival; split <;> simp
@[simp] theorem State.stopArrival_ch1 (s : State) :
    s.stopArrival.ch1 = s.ch1 := by
  unfold State.stopArrival; split <;> simp
@[simp] theorem State.stopArrival_row0 (s : State) :
    s.stopArrival.row0 = s.row0 := by
  unfold State.stopArrival; split <;> simp
@[simp] theorem State.stopArrival_rows (s : State) :
    s.stopArrival.rows = s.rows := by
  unfold State.stopArrival; split <;> simp
@[simp] theorem State.stopArrival_front (s : State) :
    s.stopArrival.front = s.front := by
  unfold State.stopArrival; split <;> simp
@[simp] theorem State.stopArrival_arb (s : State) :
    s.stopArrival.arb = s.arb := by
  unfold State.stopArrival; split <;> simp
@[simp] theorem State.stopArrival_steer (s : State) :
    s.stopArrival.steer = s.steer := by
  unfold State.stopArrival; split <;> simp
@[simp] theorem State.stopArrival_duty (s : State) :
    s.stopArrival.duty = s.duty := by
  unfold State.stopArrival; split <;> simp

end Sys2Proof.Machine
end

