-- ==== Sys2Proof/Laws/Outbound.lean ====
section
/-! SUPPORT. The outbound list, said once for each operation (R10 to R15). -/

namespace Sys2Proof.Machine

/-- The order of R12 is transitive. -/
theorem Entry.before_trans {a b c : Entry} (h1 : a.before b = true) (h2 : b.before c = true) : a.before c = true := by
  simp only [Entry.before, Bool.or_eq_true, Bool.and_eq_true, decide_eq_true_eq, beq_iff_eq] at *
  omega

/-- Two entries with different age stamps stand in one order or the other. -/
theorem Entry.before_or {a b : Entry} (h : a.stamp ≠ b.stamp) : a.before b = true ∨ b.before a = true := by
  simp only [Entry.before, Bool.or_eq_true, Bool.and_eq_true, decide_eq_true_eq, beq_iff_eq]
  omega

/-- An inserted entry is added, and nothing else changes but the order. -/
theorem insertEntry_perm (e : Entry) (l : List Entry) : (insertEntry e l).Perm (e :: l) := by
  induction l with
  | nil => exact List.Perm.refl _
  | cons x xs ih =>
    unfold insertEntry
    split
    · exact List.Perm.refl _
    · exact (ih.cons x).trans (List.Perm.swap e x xs)

@[simp] theorem mem_insertEntry {a e : Entry} {l : List Entry} : a ∈ insertEntry e l ↔ a = e ∨ a ∈ l := by
  rw [(insertEntry_perm e l).mem_iff, List.mem_cons]

/-- Insertion keeps the order of R12, the age stamps being different. -/
theorem insertEntry_ordered {e : Entry} {l : List Entry} (hl : l.Pairwise fun a b => a.before b = true)
    (hs : ∀ x ∈ l, x.stamp ≠ e.stamp) : (insertEntry e l).Pairwise fun a b => a.before b = true := by
  induction l with
  | nil => exact List.pairwise_singleton _ _
  | cons x xs ih =>
    unfold insertEntry
    rw [List.pairwise_cons] at hl
    split
    · next h =>
      refine List.pairwise_cons.mpr ⟨fun y hy => ?_, List.pairwise_cons.mpr hl⟩
      rcases List.mem_cons.mp hy with rfl | hy
      · exact h
      · exact Entry.before_trans h (hl.1 y hy)
    · next h =>
      refine List.pairwise_cons.mpr ⟨fun y hy => ?_, ih hl.2 fun z hz => hs z (List.mem_cons_of_mem _ hz)⟩
      rcases mem_insertEntry.mp hy with rfl | hy
      · exact (Entry.before_or (hs x List.mem_cons_self)).resolve_right h
      · exact hl.1 y hy

@[simp] theorem mem_dropKey {k : Key} {a : Entry} {l : List Entry} : a ∈ dropKey k l ↔ a ∈ l ∧ a.content.key ≠ k := by
  simp [dropKey]

theorem findKey_none {k : Key} {l : List Entry} : findKey k l = none ↔ ∀ e ∈ l, e.content.key ≠ k := by
  simp [findKey]

theorem findKey_some {k : Key} {l : List Entry} {e : Entry} (h : findKey k l = some e) : e ∈ l ∧ e.content.key = k :=
  ⟨List.mem_of_find?_eq_some h, by simpa using List.find?_some h⟩

/-- Coalescing keeps kind and key (R11). -/
@[simp] theorem Content.coalesce_key {a b : Content} (h : a.key = b.key) : (a.coalesce b).key = b.key := by
  cases a <;> cases b <;> simp_all [Content.coalesce, Content.key]

theorem Content.coalesce_kind {a b : Content} : (a.coalesce b).kind = a.kind := by
  cases a <;> cases b <;> rfl

/-- An absorbed offer leaves stamp, attempts, kind and key of every entry. -/
@[simp] theorem Entry.absorb_stamp (c : Content) (e : Entry) : (e.absorb c).stamp = e.stamp := by
  unfold Entry.absorb Entry.absorbed; split_ifs <;> rfl

@[simp] theorem Entry.absorb_attempts (c : Content) (e : Entry) : (e.absorb c).attempts = e.attempts := by
  unfold Entry.absorb Entry.absorbed; split_ifs <;> rfl

@[simp] theorem Entry.absorb_kind (c : Content) (e : Entry) : (e.absorb c).content.kind = e.content.kind := by
  unfold Entry.absorb Entry.absorbed; split_ifs
  · exact Content.coalesce_kind
  · rfl

@[simp] theorem Entry.absorb_key (c : Content) (e : Entry) : (e.absorb c).content.key = e.content.key := by
  unfold Entry.absorb Entry.absorbed
  split_ifs with h
  · rw [beq_iff_eq] at h; exact (Content.coalesce_key h).trans h.symm
  · rfl

/-- What an offer can do (R10, R11): a new entry in its place, or the entry of its key changed where it stands. -/
theorem Outbound.offer_cases (o : Outbound) (c : Content) :
    ((∀ e ∈ o.entries, e.content.key ≠ c.key) ∧
      o.offer c = ⟨insertEntry ⟨c, o.nextStamp, 0⟩ o.entries, o.nextStamp + 1⟩) ∨
    ((∃ e ∈ o.entries, e.content.key = c.key) ∧
      o.offer c = { o with entries := o.entries.map (Entry.absorb c) }) := by
  unfold Outbound.offer
  split
  · next e h => exact .inr ⟨⟨e, findKey_some h⟩, rfl⟩
  · next h => exact .inl ⟨findKey_none.mp h, rfl⟩

/-- What a return from the slot can do (R14): the entry in its old place, or merged with the pending one of its key. -/
theorem Outbound.giveBack_cases (o : Outbound) (e : Entry) :
    ((∀ p ∈ o.entries, p.content.key ≠ e.content.key) ∧ o.giveBack e = { o with entries := insertEntry e o.entries }) ∨
    (∃ p ∈ o.entries, p.content.key = e.content.key ∧
      o.giveBack e = { o with entries := insertEntry (e.absorbed p.content) (dropKey e.content.key o.entries) }) := by
  unfold Outbound.giveBack
  split
  · next p h => exact .inr ⟨p, (findKey_some h).1, (findKey_some h).2, rfl⟩
  · next h => exact .inl ⟨findKey_none.mp h, rfl⟩

@[simp] theorem Outbound.withdraw_entries (o : Outbound) (k : Key) : (o.withdraw k).entries = dropKey k o.entries := rfl

@[simp] theorem Outbound.withdraw_nextStamp (o : Outbound) (k : Key) : (o.withdraw k).nextStamp = o.nextStamp := rfl

/-- An offer to the station's list changes the list alone. -/
theorem State.offer_frame (s : State) (c : Content) :
    s.offer c = { s with outbound := if s.control.station.working then s.outbound.offer c else s.outbound } := by
  unfold State.offer; split_ifs <;> rfl

end Sys2Proof.Machine
end

