-- ==== Sys2Proof/Laws/Events.lean ====
section
/-! SUPPORT. The event unit, said once for each operation (R169 to R173). -/

namespace Sys2Proof.Machine

theorem EventCode.toNat_lt (c : EventCode) : c.toNat < 16 := by cases c <;> decide

theorem EventCode.toNat_inj {a b : EventCode} (h : a.toNat = b.toNat) : a = b := by
  revert h; cases a <;> cases b <;> decide

/-- The bit of a code holds that code and no other. -/
@[simp] theorem inSet_bit (a c : EventCode) : inSet a.bit c = decide (c = a) := by
  cases a <;> cases c <;> decide

@[simp] theorem inSet_or (a b : Half) (c : EventCode) : inSet (a ||| b) c = (inSet a c || inSet b c) := by
  simp [inSet]

@[simp] theorem inSet_and (a b : Half) (c : EventCode) : inSet (a &&& b) c = (inSet a c && inSet b c) := by
  simp [inSet]

@[simp] theorem inSet_not (a : Half) (c : EventCode) : inSet (~~~a) c = !inSet a c := by
  simp [inSet, c.toNat_lt]

/-- A raise changes the flags and the list alone. -/
theorem State.raise_frame (s : State) (code : EventCode) (detail : Int) :
    s.raise code detail = { s with flags := s.flags ||| code.bit, outbound := (s.raise code detail).outbound } := by
  unfold State.raise
  simp only
  split_ifs
  · rw [State.offer_frame]
  · rfl

@[simp] theorem State.raise_flags (s : State) (code : EventCode) (detail : Int) :
    (s.raise code detail).flags = s.flags ||| code.bit := by
  rw [State.raise_frame]

/-- A series of raises changes the flags and the list alone. -/
theorem State.raiseAll_frame (s : State) (l : List Raise) :
    ∃ flags outbound, s.raiseAll l = { s with flags := flags, outbound := outbound } := by
  induction l generalizing s with
  | nil => exact ⟨s.flags, s.outbound, rfl⟩
  | cons r l ih =>
    obtain ⟨flags, outbound, h⟩ := ih (s.raise r.1 r.2)
    refine ⟨flags, outbound, h.trans ?_⟩
    rw [State.raise_frame]

/-- The flags after a series of raises: the old ones and the codes raised. -/
theorem State.inSet_raiseAll (s : State) (l : List Raise) (c : EventCode) :
    inSet (s.raiseAll l).flags c = true ↔ inSet s.flags c = true ∨ ∃ r ∈ l, r.1 = c := by
  induction l generalizing s with
  | nil => simp [State.raiseAll]
  | cons r l ih =>
    refine (ih (s.raise r.1 r.2)).trans ?_
    rw [State.raise_flags, inSet_or, inSet_bit]
    simp only [Bool.or_eq_true, decide_eq_true_eq, List.mem_cons, exists_eq_or_imp, or_assoc, @eq_comm _ c]

@[simp] theorem State.raiseAll_nil (s : State) : s.raiseAll [] = s := rfl

@[simp] theorem State.raiseAll_cons (s : State) (r : Raise) (l : List Raise) :
    s.raiseAll (r :: l) = (s.raise r.1 r.2).raiseAll l := rfl

/-- The held set names the level codes whose condition holds. -/
theorem State.inSet_heldSet (s : State) (c : EventCode) : inSet s.heldSet c = s.levelHolds c := by
  have step (l : List EventCode) (m : Half) :
      inSet (l.foldl (fun m c => if s.levelHolds c then m ||| c.bit else m) m) c =
        (inSet m c || (decide (c ∈ l) && s.levelHolds c)) := by
    induction l generalizing m with
    | nil => simp
    | cons a l ih =>
      rw [List.foldl_cons, ih]
      by_cases e : c = a
      · subst e; cases h : s.levelHolds c <;> simp
      · cases h : s.levelHolds a <;> simp [e]
  have hm : c ∈ EventCode.all := by cases c <;> decide
  unfold State.heldSet
  rw [step]
  simp [hm, inSet]

/-- A flag after FLAG CLEAR (R173). -/
theorem State.inSet_clearFlags (s : State) (codes : Half) (c : EventCode) :
    inSet (s.clearFlags codes).flags c = (inSet s.flags c && (!inSet codes c || s.levelHolds c)) := by
  change inSet (s.flags &&& ~~~(codes &&& ~~~s.heldSet)) c = _
  simp [State.inSet_heldSet]

end Sys2Proof.Machine
end

