-- ==== Sys2Proof/Laws/Params.lean ====
section
/-! SUPPORT. The parameter table and the fifteen rows of the peer view: read after write. -/

namespace Sys2Proof.Machine

/-- The table has the parameters 1 to 73 and no other (R161). -/
theorem paramRow_isSome_iff (n : Nat) : (paramRow n).isSome = true ↔ 1 ≤ n ∧ n ≤ 73 := by
  have hl : paramRows.length = 73 := by decide
  unfold paramRow
  split_ifs with h
  · simp; omega
  · rw [isSome_getElem?, hl]; omega

/-- The defaults lie in their ranges. -/
theorem paramsInRange_defaults : ParamsInRange paramDefaults := by
  intro n
  have known : ∀ m : Fin 74, ∀ r, paramRow m.val = some r → r.lo ≤ par paramDefaults m ∧ par paramDefaults m ≤ r.hi := by
    decide +kernel
  cases h : paramRow n with
  | none => trivial
  | some r =>
    have hn := (paramRow_isSome_iff n).mp (by rw [h]; rfl)
    exact known ⟨n, by omega⟩ r h

/-- A stored parameter reads as the value stored. -/
theorem par_setPar_same (t : ParamTable) (v : Int) {n : Nat} (h : 1 ≤ n ∧ n ≤ 73) : par (setPar t n v) n = v := by
  have : n - 1 < 73 := by omega
  simp [par, setPar, this]

/-- Every other parameter stands. -/
theorem par_setPar_other (t : ParamTable) (v : Int) {n m : Nat} (hn : 1 ≤ n) (hm : 1 ≤ m) (h : m ≠ n) :
    par (setPar t n v) m = par t m := by
  have : n - 1 ≠ m - 1 := by omega
  unfold par setPar
  rw [Vector.getElem?_setIfInBounds]
  simp [this]

/-- Row `n` reads as the REPORT that refreshed it (R43). -/
theorem State.refreshRow_row_same (s : State) (r : Report) {n : Nat} (h : 1 ≤ n ∧ n ≤ 14) :
    (s.refreshRow n r).row n = .heard .fresh 0 (peerContentOf r) := by
  have h0 : n ≠ 0 := by omega
  have h1 : n - 1 < 14 := by omega
  simp [State.refreshRow, State.row, h0, h1]

/-- Every other row stands (R43). -/
theorem State.refreshRow_row_other (s : State) (r : Report) {n k : Nat} (hn : 1 ≤ n) (h : k ≠ n) :
    (s.refreshRow n r).row k = s.row k := by
  unfold State.refreshRow State.row
  split_ifs with h0
  · rfl
  · have : n - 1 ≠ k - 1 := by omega
    simp only
    rw [Vector.getElem?_setIfInBounds]
    simp [this]

end Sys2Proof.Machine
end

