-- ==== Sys2Proof/Laws/Marks.lean ====
section
/-! SUPPORT. What a mark and a compute are made of, said once: ageing, the REPORT, validation, the treatment of an input,
the counters. -/

namespace Sys2Proof.Machine

/-! ### Marks -/

/-- Ageing changes the rows, the flags and the list alone (R46, R47). -/
theorem State.ageRows_frame (s : State) :
    ∃ flags outbound, s.ageRows = { s with
      row0 := s.row0.aged (s.param 3), rows := ⟨⟨s.rows.toList.map (Row.aged (s.param 3))⟩, by simp⟩
      flags := flags, outbound := outbound } := by
  unfold State.ageRows
  exact State.raiseAll_frame _ _

/-- Each row after ageing (R46). -/
theorem State.ageRows_row (s : State) (k : Nat) : s.ageRows.row k = (s.row k).aged (s.param 3) := by
  obtain ⟨flags, outbound, h⟩ := s.ageRows_frame
  rw [h]
  unfold State.row
  simp only
  split_ifs
  · rfl
  · by_cases hk : k - 1 < 14 <;> simp [hk, Row.aged]

/-- A row after a mark, as R46 states it. -/
theorem Row.aged_ages {α : Type} (limit : Int) (r : Row α) (h : ∀ life age c, r = .heard life age c → age ≤ 255) :
    RowAges limit r (r.aged limit) := by
  cases r with
  | never => rfl
  | heard life age c =>
    have e : satSucc 255 age = min 255 (age + 1) := satSucc_eq_min (h life age c rfl)
    cases life <;> simp [RowAges, Row.aged, agedLife, e]

/-- The REPORT offered at a mark shows the station as it stands. -/
theorem State.reportNow_shows (t : State) : ReportShows t t.reportNow := by
  constructor
  all_goals (try intros)
  all_goals (simp only [State.reportNow, State.rolePart])
  all_goals (try rfl)
  all_goals (try (simp_all [Arbitration.leaderBit]; done))
  · simp [State.maskedFlags, inSet]
  · cases t.marker.sample <;> rfl
  · cases h : t.control.station <;> simp_all [StationState.computes] <;>
      (simp [State.wheelPart, field, Analog.value]
       cases t.wheel.loop <;> cases t.arb.mode <;> simp [LoopState.code, ArbMode.code])
  · cases h : t.control.station <;> simp_all [StationState.computes] <;>
      (simp [State.steerPart, field, Analog.value]; cases t.steer.fusion <;> simp [Fusion.code])
  · cases h : t.control.station <;> simp_all [StationState.computes] <;>
      (simp [State.returnPart, field, Analog.value]; cases t.ret.state <;> simp [ReturnState.code])

/-- What validation can do (R162). -/
theorem State.validate_cases (s : State) :
    (s.firstFailing = none ∧
      s.validate = { s with control := { s.control with settled := true, validatedRole := s.role, station := .ready } }) ∨
    ∃ n, s.firstFailing = some n ∧
      s.validate = { s with control := { s.control with settled := false, failingCheck := n, station := .configFault } } := by
  unfold State.validate
  cases s.firstFailing with
  | none => exact .inl ⟨rfl, rfl⟩
  | some n => exact .inr ⟨n, rfl, rfl⟩

/-- Validation changes station control alone. -/
theorem State.validate_frame (s : State) : s.validate = { s with control := s.validate.control } := by
  rcases s.validate_cases with ⟨-, h⟩ | ⟨n, -, h⟩ <;> rw [h]

/-- A mark changes station control alone in the setup window. -/
theorem State.windowMark_frame (s : State) : s.windowMark = { s with control := s.windowMark.control } := by
  unfold State.windowMark
  simp only
  split_ifs
  · exact State.validate_frame _
  · rfl
  · rfl

/-! ### Computes -/

/-- The treatment of an input changes that input, the flags and the list alone (R65, R66). -/
theorem State.treatInput_frame (s : State) (i : Fin 4) :
    ∃ flags outbound, s.treatInput i = { s with
      front := { s.front with analog := s.front.analog.set i.val (s.treated i) i.isLt }
      flags := flags, outbound := outbound } := by
  unfold State.treatInput
  simp only
  split_ifs
  · exact ⟨_, _, State.raise_frame _ _ _⟩
  · exact ⟨s.flags, s.outbound, rfl⟩

/-- Forming the pair speed changes the condition, the pair speed, the flags and the list alone (R61, R62). -/
theorem State.formPair_frame (s : State) :
    ∃ flags outbound, s.formPair = { s with
      front := { s.front with
        encoderFault := encoderCondition s.front.pulse1.sum s.front.pulse2.sum s.front.encoderFault
        pairSpeed := pairSpeedOf (encoderCondition s.front.pulse1.sum s.front.pulse2.sum s.front.encoderFault)
          s.front.pulse1.speed s.front.pulse2.speed }
      flags := flags, outbound := outbound } := by
  unfold State.formPair
  exact State.raiseAll_frame _ _

/-- The evaluation of a counter changes that counter and the list alone (R151, R152). -/
theorem State.evalCounter_frame (s : State) (i : Fin 4) :
    ∃ counters outbound, s.evalCounter i = { s with duty := { s.duty with counters := counters }, outbound := outbound } ∧
      ∀ j : Fin 4, j ≠ i → counters[j] = s.duty.counters[j] := by
  unfold State.evalCounter
  simp only
  have other (c : Counter) (j : Fin 4) (h : j ≠ i) :
      (s.duty.counters.set i.val c i.isLt)[j] = s.duty.counters[j] := by
    have : i.val ≠ j.val := fun e => h (Fin.ext e.symm)
    simp [this]
  split_ifs
  · exact ⟨s.duty.counters, s.outbound, rfl, fun _ _ => rfl⟩
  · rw [State.offer_frame]
    exact ⟨_, _, rfl, other _⟩
  · exact ⟨_, s.outbound, rfl, other _⟩

end Sys2Proof.Machine
end

