-- ==== Sys2Proof/Laws/Receive.lean ====
section
/-! SUPPORT. Receiving, said once: what `State.receive` can answer, and that a telegram which reaches its block acts on the
state after hearing it (R16 to R20). -/

namespace Sys2Proof.Machine

/-- What receiving can do: nothing, a clash, the block's act after hearing, or hearing alone. -/
theorem State.receive_cases (s : State) (source : Nibble) (delivered : Bool) (act : State → State) :
    (s.receives = false ∧ s.receive source delivered act = s) ∨
    (s.receives = true ∧ s.control.station.watches = true ∧ source = s.number ∧
      s.receive source delivered act = s.endTelegram.ownNumberHeard) ∨
    (s.receives = true ∧ ¬(s.control.station.watches = true ∧ source = s.number) ∧ delivered = true ∧
      s.receive source delivered act = act (s.endTelegram.heardFrom source)) ∨
    (s.receives = true ∧ ¬(s.control.station.watches = true ∧ source = s.number) ∧ delivered = false ∧
      s.receive source delivered act = s.endTelegram.heardFrom source) := by
  unfold State.receive
  cases hr : s.receives <;> by_cases hc : s.control.station.watches = true ∧ source = s.number <;>
    cases hd : delivered <;> simp [hc]

/-- Hearing a telegram of another number, after its end. -/
theorem State.heardFrom_other (s : State) {source : Nibble} (h : source ≠ s.number) :
    s.endTelegram.heardFrom source = s.afterHearing := by
  have h' : ¬ source = s.endTelegram.number := h
  unfold State.heardFrom
  rw [if_neg h']
  rfl

theorem StationState.working_not_starting {st : StationState} (h : st.working = true) : st ≠ .starting := by
  rintro rfl; exact absurd h (by decide)

theorem StationState.working_watches {st : StationState} (h : st.working = true) : st.watches = true := by
  simp [StationState.watches, h]

/-- A running station in a working state with an empty slot receives (R16, R18). -/
theorem State.receives_of_working (s : State) (running : s.inReset = false) (notSending : s.line.slot = none)
    (working : s.control.station.working = true) : s.receives = true := by
  simp [State.receives, running, notSending, StationState.working_not_starting working]

/-- A station's telegram that reaches its block acts on the state after hearing it. -/
theorem State.TakesFromStation.receive {s : State} {source target : Nibble} (h : s.TakesFromStation source target)
    (act : State → State) : s.receive source (s.deliversStation source target) act = act s.afterHearing := by
  have hd : s.deliversStation source target = true := by
    have h1 : (source == 0) = false := by simpa using h.source.1
    have h2 : (source == 15) = false := by simpa using h.source.2.1
    have h3 : s.targeted target = true := by rcases h.target with h | h <;> simp [State.targeted, h]
    simp only [State.deliversStation, fromStation, bne, h1, h2, h3, h.working, Bool.not_false, Bool.and_true]
  rcases s.receive_cases source (s.deliversStation source target) act with ⟨hr, -⟩ | ⟨-, -, hn, -⟩ | ⟨-, -, -, he⟩ | ⟨-, -, hf, -⟩
  · rw [s.receives_of_working h.running h.notSending h.working] at hr; cases hr
  · exact absurd hn h.source.2.2
  · rw [he, s.heardFrom_other h.source.2.2]
  · rw [hd] at hf; cases hf

/-- A cabin telegram that reaches its block acts on the state after hearing it. -/
theorem State.TakesFromCabin.receive {s : State} {target : Nibble} (h : s.TakesFromCabin target)
    (act : State → State) : s.receive 0 (s.deliversCabin 0 target) act = act s.afterHearing := by
  have hd : s.deliversCabin 0 target = true := by
    have h3 : s.targeted target = true := by rcases h.target with h | h <;> simp [State.targeted, h]
    simp [State.deliversCabin, fromCabin, h3, h.working]
  rcases s.receive_cases 0 (s.deliversCabin 0 target) act with ⟨hr, -⟩ | ⟨-, -, hn, -⟩ | ⟨-, -, -, he⟩ | ⟨-, -, hf, -⟩
  · rw [s.receives_of_working h.running h.notSending h.working] at hr; cases hr
  · exact absurd hn.symm h.number
  · rw [he, s.heardFrom_other (Ne.symm h.number)]
  · rw [hd] at hf; cases hf

/-- SETUP and SETUP CLOSE act in SETUP and CONFIG FAULT on the state after hearing them. -/
theorem State.TakesFromCabin.receive_setup {s : State} {target : Nibble} (h : s.TakesFromCabin target)
    (hc : s.control.station.configures = true) (act : State → State) :
    s.receive 0 (s.deliversSetup 0 target) act = act s.afterHearing := by
  have hd : s.deliversSetup 0 target = true := by
    have h3 : s.targeted target = true := by rcases h.target with h | h <;> simp [State.targeted, h]
    simp [State.deliversSetup, fromCabin, h3, hc]
  rcases s.receive_cases 0 (s.deliversSetup 0 target) act with ⟨hr, -⟩ | ⟨-, -, hn, -⟩ | ⟨-, -, -, he⟩ | ⟨-, -, hf, -⟩
  · rw [s.receives_of_working h.running h.notSending h.working] at hr; cases hr
  · exact absurd hn.symm h.number
  · rw [he, s.heardFrom_other (Ne.symm h.number)]
  · rw [hd] at hf; cases hf

/-- Every command answers a next state: no rule stops the part. -/
theorem exec_answers_next (c : Instr) (s : State) : ∃ t, exec c s = .next t := by
  cases c <;> exact ⟨_, rfl⟩

end Sys2Proof.Machine
end

