-- ==== Sys2Proof/Laws/Resets.lean ====
section
/-! SUPPORT. The resets, said once (R159, R167, R168). -/

namespace Sys2Proof.Machine

/-- Straps that name no station lead to STRAP FAULT and change nothing else but the straps and the settled flag. -/
theorem State.readStraps_invalid (s : State) {straps : Straps} (h : strapsValid straps = false) :
    s.readStraps straps = { s with control := { s.control with
      straps := straps, settled := settledAfter s.control straps, station := .strapFault } } := by
  unfold State.readStraps
  simp [h]

/-- Valid straps lead to READY where the settled flag stands and to SETUP otherwise, with the period timer and both
filters started. -/
theorem State.readStraps_valid (s : State) {straps : Straps} (h : strapsValid straps = true) :
    s.readStraps straps = { s with
      control := { s.control with
        straps := straps, settled := settledAfter s.control straps, setupCount := 0
        station := if settledAfter s.control straps then .ready else .setup }
      front := { s.front with pulse1 := s.front.pulse1.start, pulse2 := s.front.pulse2.start }
      marker := { s.marker with periodTimer := some (1000 * parN s.control.params 1 + 200 * straps.number.toNat) } } := by
  unfold State.readStraps
  simp [h, State.startPeriodTimer, State.periodLength, State.number]

/-- Power-on reset leaves the queue and the causes alone of what stood before. -/
theorem State.powerOn_eq (s : State) (hold : ResetHold) :
    s.powerOn hold = { State.reset with pending := s.pending, hold := hold } := rfl

/-- What the straps must be to name a station (R159). -/
theorem strapsValid_iff (st : Straps) :
    strapsValid st = true ↔ st.number ≠ 0 ∧ st.number ≠ 15 ∧ st.role ≠ 3 := by
  obtain ⟨n, r, x⟩ := st
  have : (roleOfCode r).isSome = true ↔ r ≠ 3 := by revert r; decide
  simp [strapsValid, this, and_assoc]

end Sys2Proof.Machine
end

