-- ==== Sys2Proof/Laws/Roles.lean ====
section
/-! SUPPORT. Laws of the role computations: what the stages of arbitration and of the steering role leave alone, so that a
statement about a compute can be read off the one stage that decides it. -/

namespace Sys2Proof.Machine

/-- A supplied value is valid where its input is GOOD or HELD (R65). -/
theorem Analog.valid_iff (a : Analog) : a.valid = true ↔ a.status = .good ∨ a.status = .held := by simp [Analog.valid]

/-! ### Arbitration -/

theorem changeStanding_standing (i : ArbInput) (a : Arbitration) :
    (changeStanding i a).standing = (selectStanding i).1 ∧ (changeStanding i a).leader = (selectStanding i).2 := by
  unfold changeStanding; dsimp only; split_ifs <;> simp

theorem changeStanding_sameSide (i : ArbInput) (a : Arbitration) : (changeStanding i a).sameSide = a.sameSide := by
  unfold changeStanding; dsimp only; split_ifs <;> simp

/-- Forcing and machine leave the standing, the leader number, the same-side condition and the differential in effect. -/
theorem arbDecide_frame (i : ArbInput) (a : Arbitration) :
    (arbDecide i a).standing = a.standing ∧ (arbDecide i a).leader = a.leader ∧
      (arbDecide i a).sameSide = a.sameSide ∧ (arbDecide i a).inEffect = a.inEffect := by
  unfold arbDecide arbMachine; dsimp only; split_ifs <;> (try split) <;> simp

/-- The arbitration state a compute leaves: the standing found, and for a leader or lone station the mode, the target and the
differential next (R94 to R105). -/
theorem arbCompute_state (i : ArbInput) (a : Arbitration) :
    (arbCompute i a).1 =
      let b := changeStanding i { a with sameSide := (sameSideRow i).isSome }
      if b.standing = .follower then b
      else { arbDecide i b with
        next := moveToward (arbDecide i b).inEffect (arbDecide i b).target (par i.params 43) } := by
  unfold arbCompute; dsimp only; split_ifs <;> rfl

/-! ### Steering -/

/-- Averaging leaves the fusion state and the used tilt of stage 2 (R120). -/
theorem steerAverage_frame (i : SteerInput) (w : Steer) :
    (steerAverage i w).fusion = w.fusion ∧ (steerAverage i w).usedX = w.usedX ∧ (steerAverage i w).usedY = w.usedY := by
  unfold steerAverage
  split <;> (try split) <;> (try dsimp only) <;> (try split) <;> (try split) <;> simp

/-- The depth step leaves the fusion state, the used tilt and the offset reset period (R118). -/
theorem steerDepth_frame (i : SteerInput) (w : Steer) :
    (steerDepth i w).1.fusion = w.fusion ∧ (steerDepth i w).1.usedX = w.usedX ∧ (steerDepth i w).1.usedY = w.usedY ∧
      (steerDepth i w).1.resetPeriod = w.resetPeriod := by
  unfold steerDepth; dsimp only; split <;> (try dsimp only) <;> (try split_ifs) <;> simp

/-- What stage 2 decides stands to the end of the compute (R113). -/
theorem steerCompute_fusion (i : SteerInput) (w : Steer) :
    (steerCompute i w).1.fusion = (fuse i (steerReset i w)).1 ∧
      (steerCompute i w).1.usedX = (fuse i (steerReset i w)).2.1 ∧
      (steerCompute i w).1.usedY = (fuse i (steerReset i w)).2.2 := by
  have h : ∀ x, (steerOffsets i x).1.fusion = x.fusion ∧ (steerOffsets i x).1.usedX = x.usedX ∧
      (steerOffsets i x).1.usedY = x.usedY := by
    intro x
    unfold steerOffsets
    split
    · have hd := steerDepth_frame i (steerAverage i x)
      have ha := steerAverage_frame i x
      exact ⟨hd.1.trans ha.1, hd.2.1.trans ha.2.1, hd.2.2.1.trans ha.2.2⟩
    · simp
  simp only [steerCompute, steerDemands, steerStuck, (h _).1, (h _).2.1, (h _).2.2]
  simp [steerFuse]

end Sys2Proof.Machine
end

