-- ==== Sys2Proof/Laws/Wire.lean ====
section
/-! SUPPORT. Laws of reading the line: what the receiver makes of the levels that a sender puts on it (R1, R16). -/

namespace Sys2Proof.Machine

theorem byteOfLevels_bits (b : Byte) :
    byteOfLevels (b.getLsbD 7) (b.getLsbD 6) (b.getLsbD 5) (b.getLsbD 4) (b.getLsbD 3) (b.getLsbD 2) (b.getLsbD 1)
      (b.getLsbD 0) = b := by
  revert b; decide +kernel

/-- Bytes sent are read back, followed by whatever the levels after them spell. -/
theorem readLevels_lineLevels_append (bytes : List Byte) (after : List Bool) :
    readLevels (lineLevels bytes ++ after) = bytes ++ readLevels after := by
  induction bytes with
  | nil => rfl
  | cons b bytes ih =>
    rw [lineLevels] at ih
    simp only [lineLevels, List.flatMap_cons, byteLevels, List.cons_append, List.nil_append, readLevels, byteOfLevels_bits, ih]

end Sys2Proof.Machine
end

