-- ==== Sys2Proof/Tests/Slice0.lean ====
section
/-! SUPPORT. Tests of the model: what WellFormed refuses, values of spec/'s own tables and worked cases, one or two small
steps for each command. Expected results are the spec's figures or hand work from its rules, as each comment says. -/

set_option Elab.async false

namespace Sys2Proof.Tests

open Sys2Proof.Machine

/-- A station of a role and number in a working state, past its first mark, with default parameters. -/
def station (role : BitVec 2) (n : Nibble) (st : StationState) : State :=
  { State.reset with
    hold := ⟨false, false⟩
    control := { Control.reset with
      straps := ⟨n, role, .zero⟩, station := st, settled := st.computes
      validatedRole := if st.computes then roleOfCode role else none }
    marker := { Marker.reset with
      firstMark := false, periodTimer := some (10000 + 200 * n.toNat), computeTimer := some 6000 } }

/-- The state a command leaves. -/
def after (c : Instr) (s : State) : State :=
  match exec c s with
  | .next t => t
  | .fault _ => State.reset
  | .refused _ => State.reset

/-- The station with one entry in its sending slot. -/
def sending (c : Content) (attempts : Nat) (s : State) : State :=
  { s with line := { s.line with slot := some ⟨⟨c, s.outbound.nextStamp, attempts⟩, 0⟩ }
           outbound := { s.outbound with nextStamp := s.outbound.nextStamp + 1 } }

/-- A DEMAND with every field in its accepted range. -/
def plainDemand (mode : Byte) : DemandFields := ⟨mode, 0, 300, 0, 0, 100, 300, 1300, 1050, 0⟩

/-- A REPORT of a READY WHEEL station. -/
def wheelReport : Report :=
  { station := .ready, mode := 3, role := .wheel, side := .one, isolated := false, frozen := false, leader := true
    flags := 0, sample := 7, part := .wheel ⟨300, 297, 298, 150, 2, 1, 0xFFFE, 441⟩ }

/-! ### WellFormed refuses -/

theorem test_wf_telegramHeard_source : (Instr.telegramHeard 15).wellFormed = false := by decide
theorem test_wf_mark_source : (Instr.mark 15 15 1).wellFormed = false := by decide
theorem test_wf_countHalt_source : (Instr.countHalt 15 15 0).wellFormed = false := by decide
theorem test_wf_countThaw_source : (Instr.countThaw 15 15).wellFormed = false := by decide
theorem test_wf_demand_source : (Instr.demand 15 15 (plainDemand 0)).wellFormed = false := by decide
theorem test_wf_report_source : (Instr.report 15 15 wheelReport).wellFormed = false := by decide
theorem test_wf_report_part_of_other_role :
    (Instr.report 1 15 { wheelReport with role := .steer }).wellFormed = false := by decide
theorem test_wf_report_part_in_setup :
    (Instr.report 1 15 { wheelReport with station := .setup }).wellFormed = false := by decide
theorem test_wf_report_without_part :
    (Instr.report 1 15 { wheelReport with part := .none }).wellFormed = false := by decide
theorem test_wf_flagClear_source : (Instr.flagClear 15 15 1).wellFormed = false := by decide
theorem test_wf_countLoad_source : (Instr.countLoad 15 15 0 1).wellFormed = false := by decide
theorem test_wf_countQuery_source : (Instr.countQuery 15 15 0).wellFormed = false := by decide
theorem test_wf_setup_source : (Instr.setup 15 15 1 9).wellFormed = false := by decide
theorem test_wf_setupClose_source : (Instr.setupClose 15 15).wellFormed = false := by decide
theorem test_wf_restart_source : (Instr.restart 15 15 ⟨1, 0, .zero⟩).wellFormed = false := by decide

/-! ### Figures of the spec's tables -/

/-- The coding cases after R38. -/
theorem test_output_codes : signedCode 412 = 2609 ∧ signedCode (-412) = 1485 ∧ signedCode 1 = 2048 ∧
    unsignedCode 183 = 1182 ∧ unsignedCode 211 = 1258 ∧ unsignedCode 650 = 2457 ∧ unsignedCode 1 = 685 := by decide

/-- Section 4.7, "Speed of one input" and "A silent encoder". -/
theorem test_speeds : ringSpeed paramDefaults [20, 21, 20, 21] = 300 ∧ ringSpeed paramDefaults [20, 20, 21, 20] = 297 ∧
    pairSpeedOf none 300 297 = 298 ∧ ringSpeed paramDefaults [20] = 293 ∧ ringSpeed paramDefaults [9, 0, 0, 0] = 33 ∧
    encoderCondition 84 0 none = some .second := by decide

/-- Section 4.7, "Scaling". -/
theorem test_scaling : scaleRaw 0 500 (0, 500) 1500 = 150 ∧ scaleRaw (-20000) 20000 (-20000, 20000) 2100 = 777 ∧
    scaleRaw (-20000) 20000 (-20000, 20000) 650 = -20000 ∧ scaleRaw 1000 2000 (1000, 2000) 1229 = 1200 := by decide

/-- Section 4.7, "A suction loop that breaks and recovers": computes 700, 709 and 712. -/
theorem test_fault_hold :
    (Analog.treat 0 600 (0, 600) ⟨20, .good, 0, some 70⟩) = ⟨20, .held, 1, some 70⟩ ∧
    (Analog.treat 0 600 (0, 600) ⟨20, .held, 9, some 70⟩) = ⟨20, .faulted, 10, some 70⟩ ∧
    (Analog.treat 0 600 (0, 600) ⟨1050, .faulted, 10, some 70⟩) = ⟨1050, .good, 0, some 81⟩ := by decide

/-- What the wheel loop of the worked case in section 5.5 reads. -/
def wheelCase (pairSpeed : Int) : WheelInput :=
  { params := paramDefaults, mode := .cut, baseSpeed := 300, demanded := some .forward, returnState := some 2
    pairSpeed := pairSpeed, pressure := 0, pressureValid := true, inEffect := 0, side := .zero, now := 100 }

/-- Section 5.5, computes 1 and 7. -/
theorem test_acquire_and_track :
    (let w := (wheelCompute (wheelCase 250)
        { Wheel.reset with loop := .acquire, u := 400, ramped := 300 }).1
     w.u = 412 ∧ w.residue = 128 ∧ w.loop = .acquire ∧ w.acquireCount = 0) ∧
    (let w := (wheelCompute (wheelCase 293)
        { Wheel.reset with loop := .acquire, u := 440, residue := 192, ramped := 300, acquireCount := 4 }).1
     w.u = 441 ∧ w.residue = 48 ∧ w.loop = .track ∧ w.lockCount = 0 ∧ w.drive = 441) := by decide

/-- Section 5.5, the differential of −5: LEFT 298, RIGHT 303. -/
theorem test_shares : shareOf .zero (-5) = -2 ∧ shareOf .one (-5) = 3 := by decide

/-- Section 7.10, compute 900: integration of both axes, steering halves, flap demands of both faces. -/
theorem test_integration_and_flaps :
    integrateAxis 115 7 180 300 = (181, 105) ∧ integrateAxis (-35) 7 (-42) (-20) = (-42, -265) ∧
    (let i : SteerInput :=
      { params := paramDefaults, mode := .cut, active := true, side := .zero, tiltX := 120, tiltY := -40
        tiltValid := true, posL := 0, posR := 0, posLValid := true, posRValid := true, appliedL := 0, appliedR := 0
        peer := none, targetX := 0, targetY := 0, depth := 4527, now := 900 }
     let w := { Steer.reset with usedX := 115, usedY := -35, offX := 181, offY := -42 }
     cutDemands i w = (183, 211) ∧ cutDemands { i with side := .one } w = (189, 217)) := by decide

/-- Section 8.11, the required flow at three penetration rates, and the pump step of compute 817. -/
theorem test_required_flow :
    (let i (rate : Int) : ReturnInput :=
      { params := paramDefaults, mode := .cut, flow := 0, flowValid := true, density := 1000, densityValid := true
        suction := 300, suctionValid := true, rate := rate, densityLimit := 1250, freshDensity := 1050 }
     requiredFlow (i 100) = 1059 ∧ requiredFlow (i 300) = 3176 ∧ requiredFlow (i 450) = 4763) ∧
    integralStep 32 1746 50 737 128 = (787, 0) := by decide

/-- Section 6.8, compute 1000: the differential next moves one slew step from 0 toward −40. -/
theorem test_differential_slew : moveToward 0 (-40) 2 = -2 ∧ moveToward (-39) (-40) 2 = -40 := by decide

/-- R3: the published check value of this polynomial and start value over the nine digits 1 to 9. -/
theorem test_check : check [0x31, 0x32, 0x33, 0x34, 0x35, 0x36, 0x37, 0x38, 0x39] = 0x29B1#16 := by decide +kernel

/-- R4 and section 1.2, written out: MARK 403 from station 2 to all, its low byte in header byte 3. -/
theorem test_mark_telegram : (telegram 0 2 15 0x93 [0x01, 0x93]).take 6 = [0x02, 0xF0, 0x02, 0x93, 0x01, 0x93] := by
  decide +kernel

/-- R7: MARK of station 1 outbids MARK of station 2. -/
theorem test_outbid : attemptOutcome (telegram 0 2 15 0x93 [0x01, 0x93]) (lineLevels (telegram 0 1 15 0x93 [0x01, 0x93]))
    = .attemptOutbid := by decide +kernel

/-! ### Commands -/

/-- R168: both outputs drive code 0 and the station is in STARTING. -/
theorem test_powerOnReset : let t := after (.powerOnReset .supplyDip) (station 0 3 .active)
    t.control.station = .starting ∧ t.inReset = true ∧ t.outputCode0 = 0 := by decide +kernel

/-- R159: number 3 goes to SETUP with its timer at 10.6 ms; number 15 goes to STRAP FAULT. -/
theorem test_resetRelease :
    (let t := after (.resetRelease .supplyStood ⟨3, 1, .one⟩) State.reset
     t.control.station = .setup ∧ t.marker.periodTimer = some 10600) ∧
    (after (.resetRelease .supplyStood ⟨15, 1, .one⟩) State.reset).control.station = .strapFault := by decide +kernel

/-- R55, R56: the second agreeing sample is the edge, and it counts once. -/
theorem test_filterSample :
    (let s := { station 0 1 .ready with front := { FrontEnd.reset with
        pulse1 := { Pulse.reset with running := true, primed := true } } }
     let once := after (.filterSample .first .high) s
     once.front.pulse1.count = 0 ∧ (after (.filterSample .first .high) once).front.pulse1.count = 1) := by decide +kernel

/-- R63. -/
theorem test_analogConversion :
    (let t := after (.analogConversion 2 1500) (station 1 3 .ready)
     (t.input 2).raw = 1500 ∧ (t.input 1).raw = 0) := by decide +kernel

/-- R24: the MARK carries the count plus 1, modulo 65536. -/
theorem test_periodTimerExpiry :
    (let s := station 0 1 .ready
     let t := after .periodTimerExpiry { s with marker := { s.marker with count := 65535 } }
     t.outbound.entries.map Entry.content = [.mark 0]) := by decide +kernel

/-- R4, R6. -/
theorem test_attemptStart :
    (let s := station 0 1 .ready
     let t := after .attemptStart { (after .periodTimerExpiry s) with marker := { s.marker with count := 0x1234 } }
     t.outbound.entries = [] ∧ t.line.slot.map Slot.periodByte = some 0x34) := by decide +kernel

/-- R14: the newer REPORT merges into the returning entry, which keeps its stamp and attempts. -/
theorem test_attemptOutbid :
    (let s := sending (.report wheelReport) 1 (station 0 1 .ready)
     let t := after .attemptOutbid (s.offer (.report { wheelReport with sample := 8 }))
     t.outbound.entries = [⟨.report { wheelReport with sample := 8 }, 0, 1⟩]) := by decide +kernel

/-- R8: a COUNT ANSWER returns at its second failure and is gone at its third. -/
theorem test_attemptFailed :
    (let a : CountAnswer := ⟨0, 0, 0, false, false, 15⟩
     (after .attemptFailed (sending (.countAnswer a) 1 (station 0 1 .ready))).outbound.entries = [⟨.countAnswer a, 0, 2⟩] ∧
     (after .attemptFailed (sending (.countAnswer a) 2 (station 0 1 .ready))).outbound.entries = []) := by decide +kernel

/-- R27: a FAILED MARK becomes a local mark. R9, R153: the own COUNT HALT freezes at SENT. -/
theorem test_local_mark_and_own_halt :
    (after .attemptFailed (sending (.mark 1) 0 (station 0 1 .ready))).marker.count = 1 ∧
    (let t := after .attemptSent (sending (.countHalt 2) 0 (station 0 1 .ready))
     t.duty.frozen = true ∧ t.duty.halting = 1) := by decide +kernel

/-- R20: three own marks without a telegram heard leave the station ISOLATED; one heard telegram reconnects it. -/
theorem test_isolation :
    (let s := station 0 1 .ready
     let t := after .attemptSent (sending (.mark 1) 0 { s with line := { s.line with isolation := 2 } })
     t.line.health = .isolated ∧ (after (.telegramHeard 4) t).line.health = .connected) := by decide +kernel

/-- R16: a bad telegram does not count for line health. -/
theorem test_badTelegram :
    (after .badTelegram { station 0 1 .ready with line := ⟨.inTelegram, .isolated, 3, none⟩ }).line =
      ⟨.between, .isolated, 3, none⟩ := by decide +kernel

theorem test_malformedTelegram :
    (after .malformedTelegram { station 0 1 .ready with line := ⟨.inTelegram, .isolated, 3, none⟩ }).line =
      ⟨.between, .isolated, 3, none⟩ := by decide +kernel

/-- R19: an own-number telegram, here a REPORT, empties the list but for the clash notice. -/
theorem test_clashEntry :
    (let t := after (.report 1 15 wheelReport) (after .periodTimerExpiry (station 0 1 .ready))
     t.control.station = .clash ∧ t.outbound.entries.map (fun e => e.content.key) = [.notice .stationClash] ∧
     t.marker.periodTimer = none ∧ t = after .clashEntry (after .periodTimerExpiry (station 0 1 .ready))) := by
  decide +kernel

/-- R26, R28: a MARK with the number the station already holds is taken and is irregular. -/
theorem test_mark :
    (let s := station 0 1 .ready
     let t := after (.mark 2 15 403) { s with marker := { s.marker with count := 403, computeTimer := none } }
     t.marker.count = 403 ∧ inSet t.flags .markIrregular = true ∧ t.marker.computeTimer = some 6000) := by decide +kernel

/-- R31, R71: a WHEEL station's compute under CUT without a RETURN row draws the base of 0. -/
theorem test_computePoint :
    (let s := after (.demand 0 15 (plainDemand 0)) (station 0 1 .ready)
     let t := after .computePoint s
     t.wheel.loop = .off ∧ t.marker.sample = some 0 ∧ t.marker.computeTimer = none) := by decide +kernel

/-- R154: the halting station is the first source, and a second halt leaves the record. -/
theorem test_countHalt :
    (let t := after (.countHalt 4 15 2) (station 0 1 .ready)
     t.duty.frozen = true ∧ t.duty.halting = 4 ∧ (after (.countHalt 5 15 2) t).duty.halting = 4) := by decide +kernel

/-- R155. -/
theorem test_countThaw :
    (let t := after (.countThaw 0 15) (after (.countHalt 4 15 2) (station 0 1 .ready))
     t.duty.frozen = false ∧ t.duty.halting = 15) := by decide +kernel

/-- R156: loaded while FROZEN, refused while RUNNING. -/
theorem test_countLoad :
    (let f := after (.countHalt 4 15 2) (station 0 1 .ready)
     (after (.countLoad 0 15 3 77) f).duty.counters[3].value = 77 ∧
     (after (.countLoad 0 15 3 77) (station 0 1 .ready)).duty.counters[3].value = 0) := by decide +kernel

/-- R157: index 4 answers NO SUCH COUNTER under the key "none". -/
theorem test_countQuery :
    ((after (.countQuery 0 15 4) (station 0 1 .ready)).outbound.entries.map Entry.content =
      [.countAnswer ⟨4, 3, 0, false, false, 15⟩]) := by decide +kernel

/-- R164, R165: base speed 1500 is clamped to 999 and told with detail 3. -/
theorem test_demand :
    (let t := after (.demand 0 1 { plainDemand 1 with baseSpeed := 1500 }) (station 0 1 .ready)
     t.control.station = .active ∧ t.modeInForce = .hold ∧ t.row0.content?.map DemandContent.baseSpeed = some 999 ∧
     t.outbound.entries.map Entry.content = [.notice false .valueClamped 1 3 0]) := by decide +kernel

/-- R43: the row of the source holds the REPORT; an unlisted source's row stays NEVER. -/
theorem test_report :
    (let t := after (.report 2 15 wheelReport) (station 0 1 .ready)
     t.row 2 = .heard .fresh 0 (peerContentOf wheelReport) ∧ t.row 3 = .never) := by decide +kernel

/-- R173: the edge flag is cleared; the level flag of a stuck flap stays. -/
theorem test_flagClear :
    (let s := station 1 3 .ready
     let t := after (.flagClear 0 15 0xFFFF) { s with flags := 0x0042, steer := { s.steer with stuckL := true } }
     t.flags = 0x0040) := by decide +kernel

/-- R161: P53 is read unsigned, and P1 above its range is clamped to 40 with VALUE CLAMPED. -/
theorem test_setup :
    (after (.setup 0 15 53 40000) (station 0 1 .setup)).param 53 = 40000 ∧
    (let t := after (.setup 0 15 1 60) (station 0 1 .setup)
     t.param 1 = 40 ∧ inSet t.flags .valueClamped = true) := by decide +kernel

/-- R162: the defaults pass; P2 = P1 fails check 1. -/
theorem test_setupClose :
    (after (.setupClose 0 15) (station 0 1 .setup)).control.station = .ready ∧
    (let t := after (.setupClose 0 15) (after (.setup 0 15 2 10) (station 0 1 .setup))
     t.control.station = .configFault ∧ t.control.failingCheck = 1) := by decide +kernel

/-- R167: in STRAP FAULT only target 15 acts; a settled station comes back to READY. -/
theorem test_restart :
    (let s := { station 0 0 .strapFault with marker := Marker.reset }
     after (.restart 0 0 ⟨1, 0, .zero⟩) s = s ∧
     (after (.restart 0 15 ⟨1, 0, .zero⟩) s).control.station = .setup) ∧
    (after (.restart 0 1 ⟨2, 0, .one⟩) (station 0 1 .active)).control.station = .ready := by decide +kernel

/-! ### Witnesses: a concrete state and operands that meet the hypotheses of each statement, clause by clause -/

theorem witness_StepRunsFrontCommand :
    { station 0 1 .ready with pending := [.computePoint, .attemptStart] }.pending = .computePoint :: [.attemptStart] ∧
    (station 0 1 .ready).pending = [] := by decide

theorem witness_PowerOnResetHolds :
    State.reset.inReset = true ∧ (∀ k, Instr.computePoint ≠ .powerOnReset k) ∧
    ∀ k st, Instr.computePoint ≠ .resetRelease k st := ⟨rfl, nofun, nofun⟩

/-- A release that leaves the pin's cause, straps that name no station at each bound, and the numbers 1 and 14. -/
theorem witness_ResetReleaseReadsStraps :
    State.reset.inReset = true ∧ { State.reset with hold := ⟨true, true⟩ }.inReset = true ∧
    State.reset.hold.pin = false ∧
    (strapsValid ⟨0, 0, .zero⟩ = false ∧ strapsValid ⟨15, 0, .zero⟩ = false ∧ strapsValid ⟨1, 3, .zero⟩ = false) ∧
    strapsValid ⟨1, 0, .zero⟩ = true ∧ strapsValid ⟨14, 2, .one⟩ = true := by decide

/-- An ACTIVE station under target 15 and under its own number, and a STRAP FAULT station under target 15. -/
theorem witness_RestartKeepsWhatItMust :
    (let s := station 0 1 .active
     s.inReset = false ∧ s.line.slot = none ∧ (s.control.station.watches = true → s.number ≠ 0) ∧
     s.control.station ≠ .starting ∧ (1 : Nibble) = s.number ∧ s.control.station ≠ .strapFault ∧
     s.control.validatedRole = roleOfCode 0 ∧ s.control.validatedRole ≠ roleOfCode 1) ∧
    (let s := station 0 0 .strapFault
     s.inReset = false ∧ s.line.slot = none ∧ (s.control.station.watches = true → s.number ≠ 0) ∧
     s.control.station ≠ .starting) := by decide

theorem witness_ResetsClearEvents :
    let s := station 0 1 .active
    exec (.powerOnReset .supplyDip) s = .next (after (.powerOnReset .supplyDip) s) ∧
    exec (.restart 0 15 ⟨1, 0, .zero⟩) s = .next (after (.restart 0 15 ⟨1, 0, .zero⟩) s) := ⟨rfl, rfl⟩

/-- A running station, the one hypothesis of FILTER_SAMPLE and ANALOG_CONVERSION, and an input other than the converted
one. -/
theorem witness_FilterSampleAcceptsEdge : (station 0 1 .ready).inReset = false := by decide

theorem witness_ConversionReplacesRawCode : (station 0 1 .ready).inReset = false ∧ (0 : Fin 4) ≠ 3 := by decide

/-- A list without a MARK, and one whose head is a MARK. -/
theorem witness_PeriodTimerExpiryOffersMark :
    (let s := station 0 1 .ready
     s.inReset = false ∧ s.control.station.working = true ∧ s.marker.periodTimer.isSome = true ∧
     ∀ e ∈ s.outbound.entries, e.content.key ≠ .mark) ∧
    (let s := after .periodTimerExpiry (station 0 1 .ready)
     s.inReset = false ∧ s.control.station.working = true ∧ s.marker.periodTimer.isSome = true ∧
     s.outbound.entries = ⟨.mark 1, 0, 0⟩ :: [] ∧ ∀ e ∈ ([] : List Entry), e.content.key ≠ .mark) := by decide +kernel

/-- One station for each role in READY, and one in SETUP, with the compute timer running. -/
theorem witness_ComputePointRunsRole :
    ∀ r ∈ [0#2, 1#2, 2#2], (station r 3 .ready).inReset = false ∧ (station r 3 .ready).control.station.computes = true ∧
      (station r 3 .ready).marker.computeTimer.isSome = true ∧ (station r 3 .ready).role.isSome = true ∧
      (station r 3 .setup).control.station.configures = true ∧ (station r 3 .setup).marker.computeTimer.isSome = true := by
  decide

/-- R96, R169, R171: a usable row of the own side latches STATION CLASH at a compute and offers its NOTICE, detail 256 + 2. -/
theorem test_raise_at_compute :
    (let t := after .computePoint (after (.report 2 15 { wheelReport with side := .zero }) (station 0 1 .ready))
     inSet t.flags .stationClash = true ∧
     t.outbound.entries.map Entry.content = [.notice true .stationClash 1 258 0]) := by decide +kernel

/-- A working station with a MARK at its head, and a station in CLASH with its clash notice. -/
theorem witness_AttemptStartTakesHead :
    (let s := after .periodTimerExpiry (station 0 1 .ready)
     s.inReset = false ∧ s.line.slot = none ∧ s.line.receiver = .between ∧ s.control.station.working = true ∧
     s.outbound.entries = ⟨.mark 1, 0, 0⟩ :: []) ∧
    (let s := after .clashEntry (station 0 1 .ready)
     s.line.slot = none ∧ s.line.receiver = .between ∧ s.control.station = .clash ∧ s.outbound.entries ≠ []) := by
  decide +kernel

/-- A station sending a REPORT while an older MARK is pending. -/
def outbidOther : State := sending (.report wheelReport) 1 (after .periodTimerExpiry (station 0 1 .ready))

/-- A station sending a REPORT while a newer one is pending. -/
def outbidSame : State := (sending (.report wheelReport) 1 (station 0 1 .ready)).offer (.report wheelReport)

theorem listInv_outbidOther : ListInv outbidOther where
  ordered := by decide +kernel
  oneForKey := by decide +kernel
  stamped := by decide +kernel
  stampsDiffer := by decide +kernel
  attempts := by decide +kernel
  contents e he := by
    have h : e.content = .report wheelReport ∨ e.content = .mark 1 := by revert e; decide +kernel
    rcases h with h | h <;> rw [h] <;> trivial

theorem listInv_outbidSame : ListInv outbidSame where
  ordered := by decide +kernel
  oneForKey := by decide +kernel
  stamped := by decide +kernel
  stampsDiffer := by decide +kernel
  attempts := by decide +kernel
  contents e he := by
    have h : e.content = .report wheelReport := by revert e; decide +kernel
    rw [h]; trivial

theorem witness_AttemptOutbidReturnsEntry :
    (ListInv outbidOther ∧ outbidOther.inReset = false ∧
      outbidOther.line.slot = some ⟨⟨.report wheelReport, 1, 1⟩, 0⟩ ∧
      ∀ p ∈ outbidOther.outbound.entries, p.content.key ≠ (Content.report wheelReport).key) ∧
    (ListInv outbidSame ∧ outbidSame.inReset = false ∧ outbidSame.line.slot = some ⟨⟨.report wheelReport, 0, 1⟩, 0⟩ ∧
      ∃ p ∈ outbidSame.outbound.entries, p.content.key = (Content.report wheelReport).key) :=
  ⟨⟨listInv_outbidOther, by decide +kernel⟩, ⟨listInv_outbidSame, by decide +kernel⟩⟩

/-- Failures one, two and three of a REPORT, and the third of a COUNT HALT. -/
theorem witness_AttemptFailedCountsFailures :
    ∀ a ∈ [0, 1, 2], ∀ c ∈ [Content.report wheelReport, .countHalt 0],
      (sending c a (station 0 1 .ready)).inReset = false ∧ c.key ≠ .mark ∧
      (sending c a (station 0 1 .ready)).line.slot = some ⟨⟨c, 0, a⟩, 0⟩ := by decide

theorem witness_OwnMarkTakenSentOrFailed :
    let s := sending (.mark 1) 0 (station 0 1 .ready)
    s.inReset = false ∧ s.control.station.working = true ∧ s.line.slot = some ⟨⟨.mark 1, 0, 0⟩, 0⟩ := by decide

theorem witness_SentEntryLeavesSlot :
    ∀ c ∈ [Content.report wheelReport, .countHalt 0],
      (sending c 0 (station 0 1 .ready)).inReset = false ∧ c.key ≠ .mark ∧
      (sending c 0 (station 0 1 .ready)).line.slot = some ⟨⟨c, 0, 0⟩, 0⟩ := by decide

theorem witness_TelegramsWithoutBlock :
    (let s := station 0 1 .ready
     s.inReset = false ∧ s.control.station ≠ .starting ∧ s.line.slot = none ∧ (4 : Nibble) ≠ s.number) ∧
    (let s := station 0 15 .strapFault
     s.inReset = false ∧ s.control.station ≠ .starting ∧ s.line.slot = none ∧ s.control.station = .strapFault) := by
  decide

/-- A working station, one in CLASH with an empty list and with the clash notice pending, and one in STRAP FAULT. -/
theorem witness_ClashEntryEmptiesList :
    (let s := station 0 1 .ready
     s.inReset = false ∧ s.control.station.working = true ∧ s.line.slot = none) ∧
    (let s := station 0 1 .clash
     s.inReset = false ∧ s.control.station = .clash ∧ s.line.slot = none ∧ s.outbound.entries = []) ∧
    (let s := after .clashEntry (station 0 1 .ready)
     s.inReset = false ∧ s.control.station = .clash ∧ s.line.slot = none ∧
     s.outbound.entries = [⟨.notice true .stationClash 1 1 0, 0, 0⟩]) ∧
    (let s := station 0 0 .strapFault
     s.inReset = false ∧ s.control.station = .strapFault ∧ s.line.slot = none) := by decide +kernel

/-- What keeps a telegram from its block: a source, a target, a state; and the own number in READY and in CLASH. -/
theorem witness_TelegramActsAsItsRow :
    (let s := station 0 3 .ready
     (4 : Nibble) ≠ s.number ∧ (4 : Nibble) ≠ 15 ∧ s.control.station ≠ .setup ∧ s.control.station ≠ .configFault ∧
     wheelReport.wellFormed = true ∧ { wheelReport with part := .none }.wellFormed = false ∧
     (after (.countThaw 4 15) s = after (.telegramHeard 4) s ∧ after (.setup 0 15 1 9) s = after (.telegramHeard 0) s)) ∧
    (station 0 3 .clash).control.station = .clash ∧ (3 : Nibble) = (station 0 3 .clash).number ∧
    onLine (.mark 3 15 7) = some (0, 3, 15, [0, 7]) ∧ (Instr.mark 3 15 7).wellFormed = true ∧
    (station 0 0 .strapFault).control.station = .strapFault := by decide +kernel

theorem witness_NoOccasionNoEffect :
    (let s := { station 0 1 .ready with marker := Marker.reset }
     s.inReset = false ∧ s.marker.periodTimer = none ∧ s.marker.computeTimer = none ∧ s.outbound.entries = [] ∧
     s.line.slot = none) ∧
    (let s := sending (.mark 1) 0 (station 0 1 .ready)
     s.inReset = false ∧ s.line.slot.isSome = true ∧ onLine (.mark 2 15 1) = some (0, 2, 15, [0, 1])) := by
  decide +kernel

/-- Stations 1 and 14 as sources, target 15 and the own number. -/
theorem takes_from_station : (station 0 3 .ready).TakesFromStation 1 15 ∧ (station 0 3 .setup).TakesFromStation 14 3 :=
  ⟨⟨by decide, by decide, by decide, by decide, by decide⟩, ⟨by decide, by decide, by decide, by decide, by decide⟩⟩

/-- Target 15 and the own number, in READY, SETUP and CONFIG FAULT. -/
theorem takes_from_cabin :
    (station 0 3 .ready).TakesFromCabin 15 ∧ (station 0 3 .setup).TakesFromCabin 3 ∧
    (station 0 3 .configFault).TakesFromCabin 15 :=
  ⟨⟨by decide, by decide, by decide, by decide, by decide⟩, ⟨by decide, by decide, by decide, by decide, by decide⟩,
    ⟨by decide, by decide, by decide, by decide, by decide⟩⟩

theorem witness_MarkFromOtherTaken : (station 0 3 .ready).TakesFromStation 1 15 := takes_from_station.1

/-- Running and frozen counters. -/
theorem witness_CountHaltFreezes :
    (station 0 3 .ready).TakesFromStation 1 15 ∧ (station 0 3 .ready).duty.frozen = false ∧
    (after (.countHalt 4 15 0) (station 0 3 .ready)).duty.frozen = true :=
  ⟨takes_from_station.1, by decide +kernel, by decide +kernel⟩

/-- A follower of station 1. -/
def follower : State :=
  let s := station 0 3 .ready
  { s with arb := { s.arb with standing := .follower, leader := some 1 } }

/-- A lone station, and a follower that hears its leader's WHEEL part. -/
theorem witness_ReportRefreshesRow :
    ((station 0 3 .ready).TakesFromStation 1 15 ∧ wheelReport.wellFormed = true ∧
      (station 0 3 .ready).arb.standing ≠ .follower) ∧
    (follower.TakesFromStation 1 15 ∧ follower.role = some .wheel ∧ follower.arb.standing = .follower ∧
      follower.arb.leader = some (1 : Nibble).toNat ∧ ∃ p, wheelReport.part = .wheel p ∧ p.mode = 1) :=
  ⟨⟨takes_from_station.1, by decide, by decide⟩,
    ⟨by decide, by decide, by decide, by decide, by decide⟩, by decide, by decide, by decide, _, rfl, by decide⟩

theorem witness_CountThawRuns : (station 0 3 .ready).TakesFromCabin 15 := takes_from_cabin.1

/-- Indices 3 and 4, counters running and frozen. -/
theorem witness_CountRequestsAnswered :
    (station 0 3 .ready).TakesFromCabin 15 ∧ (3 : Byte).toNat = (3 : Fin 4).val ∧ 4 ≤ (4 : Byte).toNat ∧
    (station 0 3 .ready).duty.frozen = false ∧ (after (.countHalt 4 15 0) (station 0 3 .ready)).duty.frozen = true :=
  ⟨takes_from_cabin.1, by decide +kernel, by decide +kernel, by decide +kernel, by decide +kernel⟩

theorem witness_FlagClearKeepsHeldConditions :
    (station 0 3 .ready).TakesFromCabin 15 ∧
    (let s := station 0 3 .clash
     s.inReset = false ∧ s.line.slot = none ∧ s.number ≠ 0 ∧ s.control.station = .clash) ∧
    (let s := station 0 15 .strapFault
     s.inReset = false ∧ s.line.slot = none ∧ s.number ≠ 0 ∧ s.control.station = .strapFault) ∧
    (let s := station 0 0 .strapFault
     s.inReset = false ∧ s.line.slot = none ∧ s.number = 0 ∧ s.control.station = .strapFault) :=
  ⟨takes_from_cabin.1, by decide, by decide, by decide⟩

/-- Parameter numbers 0 and 74 are unknown, 1 and 73 known; a value in range and one above it. -/
theorem witness_SetupStoresParameter :
    (station 0 3 .setup).TakesFromCabin 3 ∧ (station 0 3 .setup).control.station.configures = true ∧
    paramRow (0 : Byte).toNat = none ∧ paramRow (74 : Byte).toNat = none ∧
    paramRow (1 : Byte).toNat = some ⟨5, 40, 10⟩ ∧ paramRow (73 : Byte).toNat = some ⟨0, 7, 0⟩ ∧
    inSet (station 0 3 .setup).reportMask .valueClamped = true :=
  ⟨takes_from_cabin.2.1, by decide, by decide, by decide, by decide, by decide, by decide +kernel⟩

/-- The defaults pass every check; P2 at P1 fails the first. -/
theorem witness_SetupCloseValidates :
    (station 0 3 .setup).TakesFromCabin 3 ∧ (station 0 3 .setup).control.station.configures = true ∧
    (station 0 3 .setup).firstFailing = none ∧
    (after (.setup 0 15 2 10) (station 0 3 .setup)).firstFailing = some 1 ∧
    (after (.setup 0 15 2 10) (station 0 3 .setup)).TakesFromCabin 3 :=
  ⟨takes_from_cabin.2.1, by decide, by decide +kernel, by decide +kernel,
    by decide +kernel, by decide +kernel, by decide +kernel, by decide +kernel, by decide +kernel⟩

theorem witness_DemandTakenAtArrival :
    ((station 0 3 .setup).TakesFromCabin 3 ∧ (station 0 3 .setup).control.station.configures = true) ∧
    ((station 0 3 .ready).TakesFromCabin 15 ∧ (station 0 3 .ready).control.station.computes = true) :=
  ⟨⟨takes_from_cabin.2.1, by decide⟩, takes_from_cabin.1, by decide⟩

/-- An ACTIVE WHEEL station whose loop is LOCKED. -/
def lockedStation : State :=
  let s := station 0 3 .active
  { s with wheel := { s.wheel with loop := .locked, u := 441, ramped := 300, target := 300 } }

/-- A STOP DEMAND takes the loop out of LOCKED. -/
theorem witness_EveryExitFromLockedIsTold :
    exec (.demand 0 15 (plainDemand 3)) lockedStation = .next (after (.demand 0 15 (plainDemand 3)) lockedStation) ∧
    lockedStation.wheel.loop = .locked ∧ (after (.demand 0 15 (plainDemand 3)) lockedStation).wheel.loop ≠ .locked ∧
    (after (.demand 0 15 (plainDemand 3)) lockedStation).wheel ≠ Wheel.reset := ⟨rfl, by decide +kernel⟩

/-- A standing pair is demanded REVERSE. -/
theorem witness_ReversalNeedsStandingPair :
    let s := after (.demand 0 15 { plainDemand 1 with direction := 1 }) (station 0 3 .ready)
    exec .computePoint s = .next (after .computePoint s) ∧
    (after .computePoint s).wheel.direction ≠ s.wheel.direction ∧ (after .computePoint s).wheel ≠ Wheel.reset :=
  ⟨rfl, by decide +kernel⟩

theorem witness_RolesStandBetweenComputes :
    exec (.mark 1 15 7) lockedStation = .next (after (.mark 1 15 7) lockedStation) := rfl

theorem witness_FrozenCountersOnlyLoaded :
    let s := after (.countHalt 4 15 0) (station 0 3 .ready)
    exec .computePoint s = .next (after .computePoint s) ∧ s.duty.frozen = true := ⟨rfl, by decide +kernel⟩

theorem witness_ParametersChangeBySetupAlone :
    let s := station 0 3 .setup
    exec (.setup 0 15 1 9) s = .next (after (.setup 0 15 1 9) s) ∧
    (after (.setup 0 15 1 9) s).control.params ≠ s.control.params := ⟨rfl, by decide +kernel⟩

/-- A station in CLASH hears a DEMAND. -/
theorem witness_ClashStandsUntilReset :
    let s := after .clashEntry (station 0 3 .ready)
    exec (.demand 0 15 (plainDemand 3)) s = .next (after (.demand 0 15 (plainDemand 3)) s) ∧
    s.control.station = .clash ∧ s.inReset = false ∧ s.line.slot = none ∧ s.marker.periodTimer = none ∧
    s.marker.computeTimer = none := ⟨rfl, by decide +kernel⟩

theorem witness_StrapFaultStaysSilent :
    let s := after (.resetRelease .supplyStood ⟨15, 0, .zero⟩) State.reset
    exec .attemptStart s = .next (after .attemptStart s) ∧ s.control.station = .strapFault ∧ s.inReset = false ∧
    s.line.slot = none ∧ s.outbound.entries = [] ∧ s.marker.periodTimer = none ∧ s.marker.computeTimer = none :=
  ⟨rfl, by decide +kernel⟩

/-- READY, and ACTIVE with a FRESH and with a LOST row 0 that holds CUT. -/
theorem witness_ModeInForceByStateAndRow :
    (station 0 3 .ready).control.station ≠ .active ∧
    (let s := after (.demand 0 15 (plainDemand 0)) (station 0 3 .ready)
     s.control.station = .active ∧ s.modeInForce = .cut ∧ ∃ d, s.row0 = .heard .fresh 0 d ∧ d.mode = .cut) ∧
    (let s := after (.demand 0 15 (plainDemand 0)) (station 0 3 .ready)
     let lost := { s with row0 := .heard .lost 5 (handleDemand .forward (plainDemand 0)) }
     lost.control.station = .active ∧ lost.modeInForce = .hold) :=
  ⟨by decide, ⟨by decide +kernel, by decide +kernel, _, rfl, by decide +kernel⟩, by decide +kernel⟩

/-- An empty list, and a pending entry of the offered key between two others. -/
theorem witness_OfferCreatesOrCoalesces :
    (∀ e ∈ Outbound.reset.entries, e.content.key ≠ (Content.mark 1).key) ∧
    (let l : List Entry := [⟨.mark 1, 4, 0⟩]
     let p : Entry := ⟨.report wheelReport, 2, 1⟩
     let r : List Entry := [⟨.countAnswer ⟨0, 0, 0, false, false, 15⟩, 3, 0⟩]
     p.content.key = (Content.report wheelReport).key ∧
     ∀ e ∈ l ++ r, e.content.key ≠ (Content.report wheelReport).key) := by decide

theorem witness_RaiseLatchesAndOffers : (station 0 3 .ready).control.station.working = true := by decide

theorem witness_StepKeepsListInv :
    ListInv outbidOther ∧ step { outbidOther with pending := [.attemptOutbid] } =
      .next (after .attemptOutbid outbidOther) := ⟨listInv_outbidOther, rfl⟩

theorem witness_ListHasAtMost24Entries : ListInv outbidOther := listInv_outbidOther

/-- Station 3 in SETUP after its release from reset. -/
def fresh : State := after (.resetRelease .supplyStood ⟨3, 0, .zero⟩) State.reset

theorem stationInv_fresh : StationInv fresh where
  starting := by decide +kernel
  heldAtPowerOn h := absurd h (by decide +kernel)
  straps := by decide +kernel
  settled h := absurd h (by decide +kernel)
  unsettled := by decide +kernel
  checked h := absurd h (by decide +kernel)
  window := by decide +kernel
  periodTimer := by decide +kernel
  computeTimer := by decide +kernel
  demandHeld := by decide +kernel
  ownRow := by decide +kernel
  silent h := absurd h (by decide +kernel)
  clashList h := absurd h (by decide +kernel)
  clashDrive h := absurd h (by decide +kernel)
  halting := by decide +kernel
  isolation := by decide +kernel
  health := by decide +kernel

theorem witness_StepKeepsStationInv : StationInv fresh ∧ step fresh = .next fresh := ⟨stationInv_fresh, rfl⟩

theorem pulse_in_range (w : Nat) (running : Bool) : ({ Pulse.reset with running := running }).InRange w where
  count := by simp [Pulse.reset]
  ring := by simp [Pulse.reset]
  entries := by simp [Pulse.reset]
  speed := by simp [Pulse.reset, within]

theorem rangeInv_fresh : RangeInv fresh where
  params := paramsInRange_defaults
  demand d h := by cases h
  row0 := trivial
  rows n := by
    have : fresh.row n = .never := by
      unfold State.row
      split_ifs
      · rfl
      · by_cases hn : n - 1 < 14
        · have : fresh.rows = Vector.replicate 14 .never := by decide +kernel
          simp [this, hn]
        · simp [hn]
    rw [this]; trivial
  pulse1 := pulse_in_range _ true
  pulse2 := pulse_in_range _ true
  pairSpeed := by unfold within; decide +kernel
  analog i := by
    have : fresh.input i = Analog.reset := by revert i; decide +kernel
    rw [this]
    exact ⟨by decide, by decide, by decide, by decide, nofun⟩
  wheel := by constructor <;> (try unfold within) <;> decide +kernel
  arb := by constructor <;> (try unfold within) <;> decide +kernel
  steer := by constructor <;> (try unfold within) <;> decide +kernel
  ret := by constructor <;> (try unfold within) <;> decide +kernel
  ch0 := by constructor <;> (try unfold within) <;> decide +kernel
  ch1 := by constructor <;> (try unfold within) <;> decide +kernel
  unused1 := by decide +kernel
  atRest := by decide +kernel

theorem witness_StepKeepsRanges : RangeInv fresh ∧ step fresh = .next fresh := ⟨rangeInv_fresh, rfl⟩

theorem witness_OutputCodesInRange :
    RangeInv fresh ∧ fresh.inReset = false ∧ fresh.control.station ≠ .starting ∧ fresh.control.station ≠ .strapFault ∧
    { fresh with hold := ⟨true, false⟩ }.inReset = true := ⟨rangeInv_fresh, by decide +kernel⟩

/-- A REPORT, the longest telegram kind, and a RESTART with the straps it reads. -/
theorem witness_TelegramRoundTrip :
    (Instr.report 2 15 wheelReport).wellFormed = true ∧ (onLine (.report 2 15 wheelReport)).isSome = true ∧
    (Instr.restart 0 15 ⟨3, 1, .one⟩).wellFormed = true ∧
    onLine (.restart 0 15 ⟨3, 1, .one⟩) = some (13, 0, 15, []) := by decide +kernel

/-- R16: a byte after the second check byte is none of the telegram; without its last check byte the telegram is bad. -/
theorem test_reading_ends_at_check :
    readLine ⟨3, 1, .one⟩ (lineLevels (telegram 12 0 15 7 [] ++ [9])) = .setupClose 0 15 ∧
    readLine ⟨3, 1, .one⟩ (lineLevels ((telegram 12 0 15 7 []).take 5)) = .badTelegram := by decide +kernel

/-- The MARKs of stations 1 and 2 start together: the line is what the two drive. -/
theorem witness_LowerPrecedenceValueWins :
    (0#4 < 1#4) ∧ (0#4 = 0#4 ∧ 1#4 < 2#4) ∧
    (let winner := lineLevels (telegram 0 1 15 0x93 [0x01, 0x93])
     let loser := lineLevels (telegram 0 2 15 0x93 [0x01, 0x93])
     winner = wiredLine (drives winner winner) (drives loser winner) ∧ winner ≠ loser) := by decide +kernel

/-- A READY WHEEL station with a full ring on the first input and an empty one on the second. -/
def counting : State :=
  let s := station 0 1 .ready
  { s with front := { s.front with pulse1 := { s.front.pulse1 with ring := [20, 21, 20, 21] } } }

/-- The quotient of section 4.7: 300 for the ring 20, 21, 20, 21. -/
theorem witness_SpeedsAndPairSpeed :
    (counting.inReset = false ∧ counting.control.station.computes = true ∧ counting.marker.computeTimer.isSome = true ∧
      0 < counting.param 10 ∧ 0 < counting.param 1 ∧ counting.role = some .wheel ∧
      counting.front.pulse2.ring = [] ∧ counting.front.pulse1.ring ≠ [] ∧
      300 * (4096 * 4 * 10 : Int) ≤ 82 * 600000 + 163840 / 2 ∧ 82 * 600000 + 163840 / 2 < (301 : Int) * 163840) ∧
    exec .computePoint counting = .next (after .computePoint counting) ∧
    ((after .computePoint counting).front.encoderFault = some .second ∧ counting.front.encoderFault = none) ∧
    (let other := { counting with front := { counting.front with pulse1 := counting.front.pulse2, pulse2 := counting.front.pulse1 } }
     (after .computePoint other).front.encoderFault = some .first) ∧
    (station 1 3 .ready).role ≠ some .wheel := ⟨by decide +kernel, rfl, by decide +kernel⟩

/-- Used and unused inputs, good and fault samples in each status. -/
theorem witness_AnalogInputsMoveByTable :
    (let s := after (.analogConversion 0 614) (station 0 1 .ready)
     s.inReset = false ∧ s.control.station.computes = true ∧ s.marker.computeTimer.isSome = true ∧
     s.role = some .wheel ∧ 614 ≤ (s.input 0).raw.toNat ∧ (s.input 0).raw.toNat ≤ 3583 ∧ (s.input 1).raw.toNat < 614 ∧
     exec .computePoint s = .next (after .computePoint s)) ∧
    (∀ st ∈ [AnalogStatus.unread, .good, .held, .faulted], ∃ a : Analog, a.status = st ∧ ¬ 614 ≤ a.raw.toNat) :=
  ⟨⟨by decide +kernel, by decide +kernel, by decide +kernel, by decide +kernel, by decide +kernel, by decide +kernel,
    by decide +kernel, rfl⟩, fun st _ => ⟨⟨0, st, 0, none⟩, rfl, (by decide : ¬ 614 ≤ (0 : BitVec 12).toNat)⟩⟩

/-- A step that no limit meets, one cut to the slew on either side, and one that meets either bound of u. -/
theorem witness_IntegralStepLosesNoFraction :
    (0 : Int) ≤ 50 ∧ (0 : Int) ≤ 400 ∧ (400 : Int) ≤ 1000 ∧ ((64 * 50 + 0 : Int).tdiv 256).natAbs ≤ (50 : Int).natAbs ∧
    within 0 1000 (400 + (64 * 50 + 0 : Int).tdiv 256) ∧ (50 : Int) < (64 * 400 + 0 : Int).tdiv 256 ∧
    (64 * -400 + 0 : Int).tdiv 256 < -50 ∧ 5 + (64 * -50 + 0 : Int).tdiv 256 < 0 ∧
    1000 < 995 + (64 * 50 + 0 : Int).tdiv 256 := by unfold within; decide

/-- The target at, below and above its base, a direction held and one that switches; a station that holds a DEMAND and a
usable RETURN row, and one that holds neither. -/
theorem witness_WheelTargetFollowsBase :
    let w := { Wheel.reset with ramped := 300 }
    0 ≤ par (wheelCase 0).params 27 ∧ (wheelCompute (wheelCase 0) w).1.ramped = 300 ∧
    (wheelCompute (wheelCase 0) Wheel.reset).1.ramped = 2 ∧ (wheelCompute { wheelCase 0 with mode := .hold } w).1.ramped = 298 ∧
    (wheelCompute { wheelCase 0 with demanded := some .reverse } w).1.direction = .forward ∧
    (wheelCompute { wheelCase 20 with demanded := some .reverse } Wheel.reset).1.direction = .reverse ∧
    (let s := station 0 1 .ready
     let r : Report := { wheelReport with role := .ret, part := .ret ⟨0, 0, 0, 0, 0, 0, 3, 0⟩ }
     let t := after (.report 5 15 r) (after (.demand 0 15 (plainDemand 0)) s)
     (t.usableOf .ret).map Prod.fst = [5] ∧ t.wheelInput.returnState = some 3 ∧ t.wheelInput.baseSpeed = 300 ∧
     t.row0 ≠ .never ∧ s.row0 = .never ∧ s.usableOf .ret = []) := by decide +kernel

/-- Where a loop state leads: start from OFF; five computes of STALLED; the end of BACKOFF; FAULTED under HOLD; a first and a
third jam; wind-down to OFF; the windows of ACQUIRE, TRACK and LOCKED at their counts. -/
theorem witness_WheelLoopFollowsTable :
    let goes (i : WheelInput) (w : Wheel) : LoopState := (wheelCompute i w).1.loop
    let w (l : LoopState) : Wheel :=
      { Wheel.reset with loop := l, u := 40, ramped := 300, acquireCount := 4, lockCount := 19, exitCount := 1, jamCount := 19
                         stallCount := 5, backoffCount := 50 }
    let hold := { wheelCase 300 with mode := .hold }
    let jam := { wheelCase 0 with pressure := 380 }
    goes (wheelCase 0) (w .off) = .acquire ∧ goes hold { w .off with ramped := 0 } = .off ∧
    goes jam (w .stalled) = .backoff ∧ goes jam { w .stalled with stallCount := 4 } = .stalled ∧
    goes jam (w .backoff) = .acquire ∧ goes hold { w .backoff with ramped := 0 } = .off ∧
    goes jam { w .backoff with backoffCount := 49 } = .backoff ∧
    goes hold (w .faulted) = .off ∧ goes jam (w .faulted) = .faulted ∧
    goes jam (w .locked) = .stalled ∧ goes jam { w .locked with history := [98, 99] } = .faulted ∧
    goes hold { w .locked with ramped := 2 } = .off ∧ goes hold { w .locked with ramped := 2, u := 51 } = .locked ∧
    goes (wheelCase 270) (w .acquire) = .track ∧ goes (wheelCase 269) (w .acquire) = .acquire ∧
    goes (wheelCase 290) (w .track) = .locked ∧ goes (wheelCase 289) (w .track) = .track ∧ goes (wheelCase 239) (w .track) = .acquire ∧
    goes (wheelCase 289) (w .locked) = .track ∧ goes (wheelCase 290) (w .locked) = .locked ∧
    goes (wheelCase 239) (w .locked) = .acquire := by decide +kernel

/-- What arbitration of a station of a number and side reads where one partner is usable. -/
def arbCase (number : Nat) (side : Side) (partner : Nat) : ArbInput :=
  { params := paramDefaults, mode := .cut, number := number, side := side
    wheels := [(partner, ⟨.active, .wheel, otherSide side, 0, 7, .wheel ⟨0, 0, 0, 100, 0, 0, 0, 0⟩⟩)]
    steers := [], targetX := 0, pressure := 100, pressureValid := true }

/-- Two partners, a view without one, a same-side row, and followers that join, stay with and change their leader. -/
theorem witness_PartnersChooseOneLeader :
    let i := arbCase 1 .zero 2
    let j := arbCase 2 .one 1
    let a := { Arbitration.reset with mode := .steer, starve := 5, relief := 6 }
    let counts (b : Arbitration) : Standing × Nat × Nat := (b.standing, b.starve, b.relief)
    (partnerRow i).map Prod.fst = some j.number ∧ (partnerRow j).map Prod.fst = some i.number ∧
    i.number < j.number ∧ (i.wheels.Pairwise fun p q => p.1 < q.1) ∧ partnerRow { i with wheels := [] } = none ∧
    (arbCompute { i with side := .one } a).1.sameSide = true ∧
    (arbCompute { i with side := .one } a).2 = [(.stationClash, 258)] ∧
    (arbCompute { i with side := .one } { a with sameSide := true }).2 = [] ∧
    counts (arbCompute j a).1 = (.follower, 0, 0) ∧
    counts (arbCompute j { a with standing := .follower, leader := some 1 }).1 = (.follower, 5, 6) ∧
    counts (arbCompute j { a with standing := .follower, leader := some 3 }).1 = (.follower, 0, 0) ∧
    (let t := after (.demand 0 15 (plainDemand 0)) (after (.report 2 15 wheelReport) (station 0 1 .ready))
     t.usableOf .wheel ≠ [] ∧ t.row0 ≠ .never) := by decide +kernel

/-- A leader, a follower and a lone station. -/
theorem witness_DifferentialMovesBySlew :
    let a := Arbitration.reset
    0 ≤ par paramDefaults 42 ∧ 0 ≤ par paramDefaults 43 ∧
    (arbCompute (arbCase 1 .zero 2) a).1.standing = .leader ∧ (arbCompute (arbCase 2 .one 1) a).1.standing = .follower ∧
    (arbCompute { arbCase 1 .zero 2 with wheels := [] } a).1.standing = .lone ∧ (arbCase 1 .zero 2).steers = [] ∧
    (let far : ArbInput :=
      { arbCase 1 .zero 2 with steers := [(3, ⟨.active, .steer, .zero, 0, 7, .steer ⟨0, 0, 300, 0, 0, 0, 0, 0, 0⟩⟩)] }
     (arbCompute far a).1.mode = .steer ∧ (arbCompute { far with targetX := 1 } a).1.mode = .balance ∧
     (arbCompute { far with mode := .hold } a).1.standing = .leader) := by decide +kernel

/-- Each mode, with the steer error at the high mark, at the low mark and above it, and the counts at their limits. -/
theorem witness_ArbitrationModesFollowMarks :
    let i (targetX : Int) : ArbInput :=
      { arbCase 1 .zero 2 with
        targetX := targetX, steers := [(3, ⟨.active, .steer, .zero, 0, 7, .steer ⟨0, 0, 0, 0, 0, 0, 0, 0, 0⟩⟩)] }
    let a (m : ArbMode) : Arbitration := { Arbitration.reset with mode := m, starve := 499, relief := 99 }
    let goes (i : ArbInput) (a : Arbitration) : ArbMode × Nat × Nat :=
      ((arbCompute i a).1.mode, (arbCompute i a).1.starve, (arbCompute i a).1.relief)
    (∃ c p, partnerRow (i 0) = some (2, c) ∧ c.part = .wheel p) ∧ (i 0).number < 2 ∧ (i 0).mode = .cut ∧ (i 0).steers ≠ [] ∧
    (a .steer).starve < parN (i 0).params 38 ∧
    goes (i 300) (a .balance) = (.steer, 0, 99) ∧ goes (i 299) (a .balance) = (.balance, 499, 99) ∧
    goes (i 100) (a .steer) = (.balance, 0, 99) ∧ goes { i 101 with pressure := 140 } (a .steer) = (.relief, 0, 0) ∧
    goes { i 101 with pressure := 139 } (a .steer) = (.steer, 0, 99) ∧
    goes (i 101) (a .relief) = (.steer, 0, 0) ∧ goes (i 100) (a .relief) = (.balance, 499, 0) ∧
    goes (i 100) { a .relief with relief := 98 } = (.relief, 499, 99) ∧
    goes { i 101 with pressure := 140 } { a .steer with standing := .follower, leader := some 4 } = (.steer, 1, 0) :=
  ⟨⟨_, _, rfl, rfl⟩, by decide +kernel⟩

/-- What the steering role of the worked case in section 7.10 reads at compute 900. -/
def steerCase : SteerInput :=
  { params := paramDefaults, mode := .cut, active := true, side := .zero, tiltX := 120, tiltY := -40, tiltValid := true
    posL := 0, posR := 0, posLValid := true, posRValid := true, appliedL := 0, appliedR := 0
    peer := some ⟨.active, .steer, .one, 0, 899, .steer ⟨110, 0xFFE2, 178, 0xFFD5, 0, 0, 0, 0, 0⟩⟩
    targetX := 0, targetY := 0, depth := 4527, now := 900 }

/-- A step of 7, of 50 and of 51, none, and one in BLIND; averaging with a peer sampled at 899, held back by a reset at 900 and
no more 64 periods after it; an offset reset acted on under CUT and under HOLD; an offset at its bound. -/
theorem witness_DepthStepIntegrates :
    let w := { Steer.reset with offX := 180, offY := -42, depthRef := some 4520 }
    let i := steerCase
    let goes (i : SteerInput) (w : Steer) : Int × Int × Option Half :=
      let r := (steerCompute i w).1
      (r.offX, r.resX, r.resetPeriod)
    (0 ≤ par i.params 50 ∧ within (-32000) 32000 w.offX ∧ within (-32000) 32000 w.offY ∧
      within (-32000) 32000 (178 : Half).toInt ∧ within (-32000) 32000 (0xFFD5 : Half).toInt) ∧
    (steerCompute i w).1.fusion = .paired ∧ i.depth - 4520 = 7 ∧
    goes i w = (179, 805, none) ∧ goes i { w with resetPeriod := some 899 } = (179, 805, none) ∧
    goes i { w with resetPeriod := some 900 } = (180, 805, some 900) ∧
    goes { i with now := 964 } { w with resetPeriod := some 900 } = (179, 805, none) ∧
    goes i { w with depthRef := some 4477 } = (184, 750, none) ∧ goes i { w with depthRef := some 4476 } = (179, 0, none) ∧
    (steerCompute i { w with depthRef := some 4476 }).2 = [(.depthJump, 51)] ∧
    goes { i with tiltValid := false, peer := none } w = (180, 0, none) ∧
    goes i { w with resetPending := true } = (0, 0, some 900) ∧
    goes { i with mode := .hold } { w with resetPending := true } = (0, 0, some 900) ∧
    goes { i with mode := .hold } w = (180, 0, none) ∧
    goes { i with peer := none } { w with offX := 32000, resX := 500 } = (32000, 0, none) :=
  ⟨by unfold within; decide +kernel, by and_intros <;> decide +kernel⟩

/-- A sound peer within and outside the agree limit on either axis, an own tilt that is not valid, and no peer; a usable STEER
row of the other face, and a station without one. -/
theorem witness_FusionFollowsTable :
    let goes (i : SteerInput) (f : Fusion) : Fusion × List Raise :=
      let r := steerCompute i { Steer.reset with fusion := f }
      (r.1.fusion, r.2)
    (soundPeer { steerCase with peer := none } = none ∧
      soundPeer steerCase = some ⟨110, 0xFFE2, 178, 0xFFD5, 0, 0, 0, 0, 0⟩ ∧
      within (-20000) 20000 (110 : Half).toInt ∧ within (-20000) 20000 (0xFFE2 : Half).toInt ∧
      within (-20000) 20000 steerCase.tiltX ∧ within (-20000) 20000 steerCase.tiltY) ∧
    goes steerCase .blind = (.paired, []) ∧ goes { steerCase with tiltX := 160 } .blind = (.paired, []) ∧
    goes { steerCase with tiltX := 161 } .blind = (.disagree, [(.tiltDisagree, 1)]) ∧
    goes { steerCase with tiltY := -81 } .paired = (.disagree, [(.tiltDisagree, 2)]) ∧
    goes { steerCase with tiltX := 161, tiltY := -81 } .paired = (.disagree, [(.tiltDisagree, 3)]) ∧
    goes { steerCase with tiltX := 161 } .disagree = (.disagree, []) ∧
    goes { steerCase with tiltValid := false } .paired = (.borrowed, []) ∧
    goes { steerCase with peer := none } .paired = (.single, []) ∧
    (let r : Report := { wheelReport with role := .steer, part := .steer ⟨110, 0, 0, 0, 0, 0, 0, 0, 0⟩ }
     let t := after (.demand 0 15 (plainDemand 0)) (after (.report 4 15 r) (station 1 3 .ready))
     (t.usableOf .steer).map Prod.fst = [4] ∧ t.steerInput.peer = some (peerContentOf r) ∧ t.row0 ≠ .never ∧
     (station 1 3 .ready).steerInput.peer = none) :=
  ⟨by unfold within; decide +kernel, by decide +kernel⟩

/-- A STEER station in READY, and ACTIVE under each mode, an offset reset pending; one whose flaps stay stuck, and one whose
flap L becomes stuck and comes free. -/
theorem witness_FlapDemandsByMode :
    (∀ m ∈ ([0, 1, 2, 3] : List Byte), ∀ s ∈ [station 1 3 .ready, after (.demand 0 15 { plainDemand m with offsetReset := 1 })
        (station 1 3 .ready)],
      s.inReset = false ∧ s.control.station.computes = true ∧ s.marker.computeTimer.isSome = true ∧
      s.role = some .steer ∧ (s.control.station = .ready ∨ s.steer.resetPending = true)) ∧
    (let s := station 1 3 .ready
     let stuck := { s with steer := { s.steer with stuckL := true, stuckR := true } }
     stuck.control.station.computes = true ∧ (after .computePoint stuck).steer.stuckL = true ∧
     (after .computePoint stuck).steer.stuckR = true ∧ (after .computePoint s).steer.stuckL = false ∧
     (let valid := after (.analogConversion 2 1000) { stuck with steer := { stuck.steer with stuckL := false, stuckCountL := 9 } }
      (after .computePoint { valid with ch0 := ⟨500, 500⟩ }).steer.stuckL = true ∧
      (after .computePoint { valid with steer := stuck.steer }).steer.stuckL = true ∧
      (after .computePoint { after (.analogConversion 2 700) valid with steer := stuck.steer }).steer.stuckL = false)) ∧
    ∀ s, ∃ t, exec .computePoint s = .next t := ⟨by decide +kernel, by decide +kernel, exec_answers_next _⟩

/-- A flow that reaches the requirement and one that passes 65535. -/
theorem witness_RequiredFlowRoundsUp :
    let i : ReturnInput :=
      { params := paramDefaults, mode := .cut, flow := 0, flowValid := true, density := 1000, densityValid := true
        suction := 300, suctionValid := true, rate := 300, densityLimit := 1250, freshDensity := 1050 }
    0 ≤ par i.params 53 ∧ 0 ≤ i.rate ∧ i.freshDensity ≤ par i.params 54 ∧ requiredFlow i < 65535 ∧
    requiredFlow { i with rate := 2000, params := setPar i.params 53 60000, densityLimit := 1100, freshDensity := 1090 } =
      65535 := by decide +kernel

/-- Where a return state leads: out of IDLE, out of PRIMING both ways and not yet, into and out of LIMITED, into BLOCKED and out
of it, and nowhere on an invalid flow; and a suction below the limit. -/
theorem witness_ReturnFollowsTable :
    let i : ReturnInput :=
      { params := paramDefaults, mode := .cut, flow := 1200, flowValid := true, density := 1251, densityValid := true
        suction := 300, suctionValid := true, rate := 300, densityLimit := 1250, freshDensity := 1050 }
    let w (state : ReturnState) : Return :=
      { Return.reset with state := state, u := 900, primeCount := 499, primeRun := 4, limitedExit := 9, blockedRun := 29, clearRun := 9 }
    let goes (i : ReturnInput) (w : Return) : ReturnState := (returnCompute i w).1.state
    0 ≤ par i.params 55 ∧ par i.params 55 ≤ par i.params 56 ∧ par i.params 56 ≤ 9999 ∧ 0 ≤ par i.params 59 ∧
    0 ≤ (w .running).trim ∧ goes { i with mode := .stop } (w .running) = .idle ∧ goes i (w .idle) = .priming ∧
    goes i (w .priming) = .running ∧ goes { i with flow := 1199 } (w .priming) = .blocked ∧
    goes { i with flow := 1199 } { w .priming with primeCount := 498 } = .priming ∧
    goes { i with flowValid := false } (w .priming) = .priming ∧
    goes i (w .running) = .running ∧ goes { i with rate := 450 } (w .running) = .limited ∧ goes { i with flow := 0 } (w .running) = .blocked ∧
    goes i (w .limited) = .running ∧ goes { i with rate := 450 } (w .limited) = .limited ∧
    goes { i with flow := 1593 } (w .blocked) = .running ∧ goes i (w .blocked) = .blocked ∧
    (returnCompute i (w .running)).1.trim = 10 ∧
    (returnCompute { i with suction := 59 } (w .running)).1.cavitating = true ∧
    (let t := after (.demand 0 15 (plainDemand 0)) (station 2 3 .ready)
     t.row0 ≠ .never ∧ t.returnInput.rate = 300 ∧ t.returnInput.densityLimit = 1300 ∧ t.returnInput.freshDensity = 1050) := by
  decide +kernel

/-- A counter at its last value that halts on overflow, its source the mode in force. -/
def wrapping : State :=
  let s := station 0 1 .ready
  { s with
    control := { s.control with params := setPar (setPar s.control.params 62 15) 64 4 }
    duty := { s.duty with counters := s.duty.counters.set 0 ⟨4294967295, false, false⟩ } }

/-- Counter 0 counts and wraps; counter 1 has no source. -/
theorem witness_CountersAtCompute :
    (wrapping.inReset = false ∧ wrapping.control.station.computes = true ∧
      wrapping.marker.computeTimer.isSome = true ∧ wrapping.duty.frozen = false ∧ wrapping.param 62 ≠ 0 ∧
      wrapping.param 65 = 0 ∧ wrapping.duty.counters[0].value = 4294967295 ∧ wrapping.duty.counters[0].overflow = false ∧
      (after .computePoint wrapping).duty.counters[0] = ⟨0, true, true⟩ ∧
      (findKey .countHalt wrapping.outbound.entries).map Entry.content = none ∧
      (findKey .countHalt (after .computePoint wrapping).outbound.entries).map Entry.content = some (.countHalt 0)) ∧
    exec .computePoint wrapping = .next (after .computePoint wrapping) := ⟨by decide +kernel, rfl⟩

end Sys2Proof.Tests
end

/-! ## The output codes

Laws of the current-output codes of the output stage (R37, R38), and the settlement of O44. -/

namespace Sys2Proof.Machine

/-! ### The two formulas of R38 -/

/-- On values that are not negative, division toward zero is the floor, so R38's unsigned code rounds half up. -/
theorem unsignedCode_of_nonneg {v : Int} (h : 0 ≤ v) : unsignedCode v = 682 + (v * 2730 + 500) / 1000 := by
  have hdividend : 0 ≤ v * 2730 + 500 := by omega
  rw [unsignedCode, divZero, Int.tdiv_eq_ediv_of_nonneg hdividend]

theorem signedCode_of_nonneg {v : Int} (h : 0 ≤ v) : signedCode v = 2047 + (v * 1365 + 500) / 1000 := by
  have hdividend : 0 ≤ v * 1365 := by omega
  rw [signedCode, divHalfAway_eq, if_neg hdividend.not_gt, divHalfUp_eq hdividend (by decide)]
  rfl

/-- Below zero the magnitude is rounded half up and the sign restored. -/
theorem signedCode_of_neg {v : Int} (h : v < 0) : signedCode v = 2047 - (-v * 1365 + 500) / 1000 := by
  have hdividend : v * 1365 < 0 := by omega
  have hmagnitude : 0 ≤ -(v * 1365) := by omega
  rw [signedCode, divHalfAway_eq, if_pos hdividend, divHalfUp_eq hmagnitude (by decide), ← Int.neg_mul]
  rfl

theorem unsignedCode_within {v : Int} (h : within 0 1000 v) : within 682 3412 (unsignedCode v) := by
  obtain ⟨hlo, hhi⟩ := h
  rw [unsignedCode_of_nonneg hlo]
  constructor <;> omega

theorem signedCode_within {v : Int} (h : within (-1000) 1000 v) : within 682 3412 (signedCode v) := by
  obtain ⟨hlo, hhi⟩ := h
  rcases lt_or_ge v 0 with hneg | hnonneg
  · rw [signedCode_of_neg hneg]
    constructor <;> omega
  · rw [signedCode_of_nonneg hnonneg]
    constructor <;> omega

/-! ### What each output drives -/

/-- The station drives code 0 on both outputs: reset is held, or it is in STARTING or STRAP FAULT (R37, R168). -/
def State.dark (s : State) : Prop :=
  s.inReset = true ∨ s.control.station = .starting ∨ s.control.station = .strapFault

theorem State.outputCodes_of_dark {s : State} (h : s.dark) : s.outputCode0 = 0 ∧ s.outputCode1 = 0 := by
  rw [State.outputCode0, State.outputCode1]
  rcases h with hreset | hstation | hstation
  · exact ⟨if_pos hreset, if_pos hreset⟩
  · simp [hstation]
  · simp [hstation]

theorem State.outputCodes_of_not_dark {s : State} (h : ¬ s.dark) :
    s.outputCode0 = (if s.role = some .wheel then signedCode s.ch0.applied else unsignedCode s.ch0.applied) ∧
      s.outputCode1 = unsignedCode s.ch1.applied := by
  obtain ⟨hreset, hstation⟩ := not_or.mp h
  obtain ⟨hstarting, hstrap⟩ := not_or.mp hstation
  rw [State.outputCode0, State.outputCode1, if_neg hreset, if_neg hreset]
  cases hstate : s.control.station with
  | starting => exact absurd hstate hstarting
  | strapFault => exact absurd hstate hstrap
  | setup | configFault | ready | active | clash => exact ⟨rfl, rfl⟩

/-! ### The applied values under the range invariant -/

theorem RangeInv.applied0_of_wheel {s : State} (h : RangeInv s) (hrole : s.role = some .wheel) :
    within (-1000) 1000 s.ch0.applied := by
  simpa [State.least0, hrole] using h.ch0.applied

theorem RangeInv.applied0_of_not_wheel {s : State} (h : RangeInv s) (hrole : s.role ≠ some .wheel) :
    within 0 1000 s.ch0.applied := by
  simpa [State.least0, hrole] using h.ch0.applied

/-! ### The settlement -/

/-- Settles O44: a dark station drives code 0; elsewhere the range of each applied value gives R38's formula and its
bounds, a WHEEL station's channel 0 apart from the unsigned channels. -/
theorem outputCodesInRange : Obligations.OutputCodesInRange := by
  intro s hinv
  refine ⟨State.outputCodes_of_dark, fun hreset hstarting hstrap => ?_⟩
  have hlit : ¬ s.dark := by simp [State.dark, hreset, hstarting, hstrap]
  obtain ⟨hcode0, hcode1⟩ := State.outputCodes_of_not_dark hlit
  have happlied1 := hinv.ch1.applied
  rw [hcode0, hcode1]
  by_cases hrole : s.role = some .wheel
  · rw [if_pos hrole, if_neg (not_not_intro hrole)]
    refine ⟨?_, unsignedCode_of_nonneg happlied1.1, signedCode_within (hinv.applied0_of_wheel hrole),
      unsignedCode_within happlied1⟩
    split_ifs with hsign
    · exact signedCode_of_nonneg hsign
    · exact signedCode_of_neg (not_le.mp hsign)
  · have happlied0 := hinv.applied0_of_not_wheel hrole
    rw [if_neg hrole, if_pos hrole]
    exact ⟨unsignedCode_of_nonneg happlied0.1, unsignedCode_of_nonneg happlied1.1, unsignedCode_within happlied0,
      unsignedCode_within happlied1⟩

end Sys2Proof.Machine

/-! ## The differential

Laws of the targets of arbitration and of the step from the differential in effect (R94 to R105), and the settlement of
O53. -/

namespace Sys2Proof.Machine

/-! ### Moving toward a target -/

/-- R105's move: at most the slew, on the way to the goal, whole where the goal is within reach and else one slew. -/
theorem moveToward_slew {cur goal step : Int} (hstep : 0 ≤ step) :
    let dest := moveToward cur goal step
    (dest - cur).natAbs ≤ step.natAbs ∧ (dest - cur).natAbs + (goal - dest).natAbs = (goal - cur).natAbs ∧
      ((goal - cur).natAbs ≤ step.natAbs → dest = goal) ∧
      (step.natAbs ≤ (goal - cur).natAbs → (dest - cur).natAbs = step.natAbs) := by
  have hcases := moveToward_cases cur goal step hstep
  rw [mag_eq_natAbs] at hcases
  lift step to Nat using hstep
  obtain ⟨hreach, hdest⟩ | ⟨hfar, hdest⟩ | ⟨hfar, hdest⟩ := hcases <;>
    (dsimp only; rw [hdest]; omega)

/-- A move between two values of a range stays in the range. -/
theorem moveToward_within {lo hi cur goal step : Int} (hstep : 0 ≤ step) (hcur : within lo hi cur)
    (hgoal : within lo hi goal) : within lo hi (moveToward cur goal step) := by
  obtain ⟨hcurLo, hcurHi⟩ := hcur
  obtain ⟨hgoalLo, hgoalHi⟩ := hgoal
  obtain ⟨-, hdest⟩ | ⟨hfar, hdest⟩ | ⟨hfar, hdest⟩ := moveToward_cases cur goal step hstep <;>
    (rw [hdest]; constructor <;> omega)

/-! ### The two targets -/

/-- R103 on a partner row whose part is a WHEEL part: the pressure of the RIGHT pair minus that of the LEFT. -/
theorem balanceTarget_of_partner {i : ArbInput} {n : Nat} {c : PeerContent} {p : WheelPart}
    (hrow : partnerRow i = some (n, c)) (hpart : c.part = .wheel p) :
    balanceTarget i =
      if i.pressureValid = true ∧ inSet c.flags .sensorFault = false then
        clamp (-(par i.params 42)) (par i.params 42) ((par i.params 41 *
          (match i.side with
            | .zero => (p.pressure.toNat : Int) - i.pressure
            | .one => i.pressure - (p.pressure.toNat : Int))).tdiv 16)
      else 0 := by
  have hother : c.pressure = (p.pressure.toNat : Int) := by simp [PeerContent.pressure, hpart]
  have hknown : pressuresKnown i c = true ↔ i.pressureValid = true ∧ inSet c.flags .sensorFault = false := by
    simp [pressuresKnown, PeerContent.sensorFault, inSet, EventCode.toNat]
  cases hside : i.side <;> simp [balanceTarget, hrow, hother, hknown, hside, divZero]

theorem balanceTarget_within {i : ArbInput} (hbound : 0 ≤ par i.params 42) :
    within (-(par i.params 42)) (par i.params 42) (balanceTarget i) := by
  have hzero : within (-(par i.params 42)) (par i.params 42) 0 := ⟨by omega, hbound⟩
  unfold balanceTarget
  split
  · exact hzero
  · split
    · exact clamp_within (by omega) _
    · exact hzero

theorem steerTarget_within {i : ArbInput} (hbound : 0 ≤ par i.params 42) :
    within (-(par i.params 42)) (par i.params 42) (steerTarget i) := clamp_within (by omega) _

/-! ### Forcing and machine -/

section Decide

variable {i : ArbInput} {a : Arbitration}

/-- R98: a lone station, or any station outside CUT, is under BALANCE with target 0. -/
theorem arbDecide_of_forced (h : a.standing = .lone ∨ i.mode ≠ .cut) :
    arbDecide i a = { a with mode := .balance, starve := 0, relief := 0, target := 0 } := if_pos h

/-- R98: a leader under CUT without a usable STEER row is under BALANCE, its target formed as ever. -/
theorem arbDecide_of_no_steers (hlone : a.standing ≠ .lone) (hcut : i.mode = .cut) (hsteers : i.steers = []) :
    arbDecide i a = { a with mode := .balance, starve := 0, relief := 0, target := balanceTarget i } := by
  simp [arbDecide, hlone, hcut, hsteers]

/-- R103, R104: under CUT the mode that forcing and machine leave picks the target. -/
theorem arbDecide_target_of_cut (hlone : a.standing ≠ .lone) (hcut : i.mode = .cut) :
    (arbDecide i a).target = if (arbDecide i a).mode = .steer then steerTarget i else balanceTarget i := by
  by_cases hsteers : i.steers = []
  · rw [arbDecide_of_no_steers hlone hcut hsteers]
    rfl
  · simp [arbDecide, hlone, hcut, hsteers]

theorem arbDecide_target_within (hbound : 0 ≤ par i.params 42) :
    within (-(par i.params 42)) (par i.params 42) (arbDecide i a).target := by
  by_cases hforced : a.standing = .lone ∨ i.mode ≠ .cut
  · rw [arbDecide_of_forced hforced]
    exact ⟨by simpa using hbound, hbound⟩
  · obtain ⟨hlone, hcut⟩ := not_or.mp hforced
    rw [arbDecide_target_of_cut hlone (not_not.mp hcut)]
    split
    · exact steerTarget_within hbound
    · exact balanceTarget_within hbound

end Decide

/-! ### One compute -/

theorem changeStanding_differential (i : ArbInput) (a : Arbitration) :
    (changeStanding i a).inEffect = a.inEffect ∧ (changeStanding i a).next = a.next ∧
      (changeStanding i a).target = a.target ∧ (changeStanding i a).mode = a.mode := by
  unfold changeStanding; dsimp only; split_ifs <;> simp

/-- The differential in effect stands through a compute; a mark or a leader's REPORT sets it (R106, R107). -/
theorem arbCompute_inEffect (i : ArbInput) (a : Arbitration) : (arbCompute i a).1.inEffect = a.inEffect := by
  obtain ⟨hinEffect, -⟩ := changeStanding_differential i { a with sameSide := (sameSideRow i).isSome }
  obtain ⟨-, -, -, hdecide⟩ := arbDecide_frame i (changeStanding i { a with sameSide := (sameSideRow i).isSome })
  rw [arbCompute_state]
  dsimp only
  split
  · exact hinEffect
  · exact hdecide.trans hinEffect

/-- A follower's compute goes no further than its standing (R97). -/
theorem arbCompute_of_follower {i : ArbInput} {a : Arbitration} (h : (arbCompute i a).1.standing = .follower) :
    (arbCompute i a).1 = changeStanding i { a with sameSide := (sameSideRow i).isSome } := by
  obtain ⟨hstanding, -⟩ := arbDecide_frame i (changeStanding i { a with sameSide := (sameSideRow i).isSome })
  rw [arbCompute_state] at h ⊢
  dsimp only at h ⊢
  split at h
  · next hfollower => exact if_pos hfollower
  · next hfollower => exact absurd (hstanding.symm.trans h) hfollower

/-- A leader's or lone station's compute decides on the standing found, and moves the differential next (R97, R105). -/
theorem arbCompute_of_not_follower {i : ArbInput} {a : Arbitration} (h : (arbCompute i a).1.standing ≠ .follower) :
    ∃ b : Arbitration, b.standing = (arbCompute i a).1.standing ∧
      (arbCompute i a).1 =
        { arbDecide i b with next := moveToward a.inEffect (arbDecide i b).target (par i.params 43) } := by
  obtain ⟨hinEffect, -⟩ := changeStanding_differential i { a with sameSide := (sameSideRow i).isSome }
  obtain ⟨hstanding, -, -, hkept⟩ :=
    arbDecide_frame i (changeStanding i { a with sameSide := (sameSideRow i).isSome })
  rw [arbCompute_state] at h ⊢
  dsimp only at h ⊢
  split at h
  · next hfollower => exact absurd hfollower h
  · next hfollower =>
    rw [if_neg hfollower]
    exact ⟨_, hstanding.symm, by rw [hkept, hinEffect]⟩

section Compute

variable {i : ArbInput} {a : Arbitration}

/-- R105: the differential next lies on the way from the differential in effect to the target, one slew along it where
the target is not nearer, and within P42 where the differential in effect is. -/
theorem arbCompute_next (hbound : 0 ≤ par i.params 42) (hslew : 0 ≤ par i.params 43)
    (h : (arbCompute i a).1.standing ≠ .follower) :
    let b := (arbCompute i a).1
    within (-(par i.params 42)) (par i.params 42) b.target ∧ (b.next - a.inEffect).natAbs ≤ (par i.params 43).natAbs ∧
      (b.next - a.inEffect).natAbs + (b.target - b.next).natAbs = (b.target - a.inEffect).natAbs ∧
      ((b.target - a.inEffect).natAbs ≤ (par i.params 43).natAbs → b.next = b.target) ∧
      ((par i.params 43).natAbs ≤ (b.target - a.inEffect).natAbs →
        (b.next - a.inEffect).natAbs = (par i.params 43).natAbs) ∧
      (within (-(par i.params 42)) (par i.params 42) a.inEffect →
        within (-(par i.params 42)) (par i.params 42) b.next) := by
  obtain ⟨c, -, hcompute⟩ := arbCompute_of_not_follower h
  have htarget := arbDecide_target_within (a := c) hbound
  obtain ⟨hmost, hbetween, hnear, hfar⟩ := moveToward_slew (cur := a.inEffect) (goal := (arbDecide i c).target) hslew
  rw [hcompute]
  exact ⟨htarget, hmost, hbetween, hnear, hfar, fun hcur => moveToward_within hslew hcur htarget⟩

/-- R98: a lone station's or a non-CUT leader's compute leaves BALANCE with target 0. -/
theorem arbCompute_of_forced
    (h : (arbCompute i a).1.standing = .lone ∨ ((arbCompute i a).1.standing = .leader ∧ i.mode ≠ .cut)) :
    let b := (arbCompute i a).1
    b.mode = .balance ∧ b.starve = 0 ∧ b.relief = 0 ∧ b.target = 0 := by
  have hstays : (arbCompute i a).1.standing ≠ .follower := by
    rcases h with hlone | ⟨hleader, -⟩
    · exact hlone.trans_ne nofun
    · exact hleader.trans_ne nofun
  obtain ⟨c, hstanding, hcompute⟩ := arbCompute_of_not_follower hstays
  rw [← hstanding] at h
  rw [hcompute, arbDecide_of_forced (h.imp_right And.right)]
  exact ⟨rfl, rfl, rfl, rfl⟩

/-- R98: a leader under CUT without a usable STEER row leaves BALANCE with both counts 0. -/
theorem arbCompute_of_no_steers (hleader : (arbCompute i a).1.standing = .leader) (hcut : i.mode = .cut)
    (hsteers : i.steers = []) :
    let b := (arbCompute i a).1
    b.mode = .balance ∧ b.starve = 0 ∧ b.relief = 0 := by
  obtain ⟨c, hstanding, hcompute⟩ := arbCompute_of_not_follower (hleader.trans_ne nofun)
  rw [hcompute, arbDecide_of_no_steers ((hstanding.trans hleader).trans_ne nofun) hcut hsteers]
  exact ⟨rfl, rfl, rfl⟩

/-- R103, R104: a leader under CUT takes the target of its mode. -/
theorem arbCompute_target_of_leader (hleader : (arbCompute i a).1.standing = .leader) (hcut : i.mode = .cut) :
    (arbCompute i a).1.target = if (arbCompute i a).1.mode = .steer then steerTarget i else balanceTarget i := by
  obtain ⟨c, hstanding, hcompute⟩ := arbCompute_of_not_follower (hleader.trans_ne nofun)
  rw [hcompute]
  exact arbDecide_target_of_cut ((hstanding.trans hleader).trans_ne nofun) hcut

end Compute

/-! ### The settlement -/

/-- Settles O53: a follower's compute ends with its standing; any other's target is the one its forcing or its mode
picks, clamped to P42, and the differential next is one bounded move toward it. -/
theorem differentialMovesBySlew : Obligations.DifferentialMovesBySlew := by
  intro i a hbound hslew b limited
  have hlimited : ∀ v, clamp (-(par i.params 42)) (par i.params 42) v = limited v := clamp_eq_max_min (by omega)
  refine ⟨arbCompute_inEffect i a, fun hfollower => ?_, arbCompute_next hbound hslew, arbCompute_of_forced,
    arbCompute_of_no_steers, fun hleader hcut hsteer => ?_, fun n c p hrow hpart hleader hcut hsteer => ?_⟩
  case refine_1 =>
    obtain ⟨-, hdifferential⟩ := changeStanding_differential i { a with sameSide := (sameSideRow i).isSome }
    simp only [b, arbCompute_of_follower hfollower]
    exact hdifferential
  case refine_2 =>
    calc b.target = steerTarget i := (arbCompute_target_of_leader hleader hcut).trans (if_pos hsteer)
      _ = limited ((par i.params 40 * steerError i).tdiv 16) := hlimited _
  case refine_3 =>
    calc b.target = balanceTarget i := (arbCompute_target_of_leader hleader hcut).trans (if_neg hsteer)
      _ = _ := balanceTarget_of_partner hrow hpart
      _ = _ := if_congr Iff.rfl (hlimited _) rfl

end Sys2Proof.Machine

/-! ## The duty counters between computes

Laws of the halt, the thaw, the load and the query that the duty counters take from the line, and of their answers (R154
to R157), and the settlements of O21, O23 and O24. -/

namespace Sys2Proof.Machine

/-! ### The commands that reach the counters -/

theorem State.TakesFromStation.exec_countHalt {s : State} {source target : Nibble} (h : s.TakesFromStation source target)
    (index : Byte) : exec (.countHalt source target index) s = .next (s.afterHearing.takeHalt source) :=
  congrArg Host.Outcome.next (h.receive fun t => t.takeHalt source)

section Cabin

variable {s : State} {target : Nibble} (h : s.TakesFromCabin target)

include h

theorem State.TakesFromCabin.exec_countThaw : exec (.countThaw 0 target) s = .next s.afterHearing.takeThaw :=
  congrArg Host.Outcome.next (h.receive State.takeThaw)

theorem State.TakesFromCabin.exec_countLoad (index : Byte) (v : Quad) :
    exec (.countLoad 0 target index v) s = .next (s.afterHearing.takeLoad index v) :=
  congrArg Host.Outcome.next (h.receive fun t => t.takeLoad index v)

theorem State.TakesFromCabin.exec_countQuery (index : Byte) :
    exec (.countQuery 0 target index) s = .next (s.afterHearing.takeQuery index) :=
  congrArg Host.Outcome.next (h.receive fun t => t.takeQuery index)

end Cabin

/-! ### The counter that a request names -/

theorem counterIndex_of_val {index : Byte} {i : Fin 4} (h : index.toNat = i.val) : counterIndex index = some i := by
  have hlt : index.toNat < 4 := h ▸ i.isLt
  rw [counterIndex, dif_pos hlt]
  exact congrArg some (Fin.ext h)

theorem counterIndex_of_ge {index : Byte} (h : 4 ≤ index.toNat) : counterIndex index = none :=
  dif_neg (Nat.not_lt.mpr h)

@[simp] theorem Duty.update_counter (d : Duty) (i : Fin 4) (f : Counter → Counter) :
    (d.update i f).counters[i] = f d.counters[i] := by
  simp [Duty.update]

@[simp] theorem Duty.update_frozen (d : Duty) (i : Fin 4) (f : Counter → Counter) :
    (d.update i f).frozen = d.frozen := rfl

/-! ### The answer -/

section Answer

variable {s : State} {index : Byte} (hworking : s.control.station.working = true)

include hworking

/-- A working station's answer goes to its outbound list, and nothing else changes. -/
theorem State.offerAnswer_of_working (status : AnswerStatus) :
    s.offerAnswer index status = { s with outbound := s.outbound.offer (.countAnswer (s.answer index status)) } := by
  rw [State.offerAnswer, State.offer_frame, if_pos hworking]

/-- The answer about a counter shows it, the freeze state and the halting station as they stand. -/
theorem State.offerAnswer_of_counter {i : Fin 4} (hindex : counterIndex index = some i) (status : AnswerStatus) :
    s.offerAnswer index status = { s with
      outbound := s.outbound.offer (.countAnswer ⟨index, status.code, s.duty.counters[i].value,
        s.duty.counters[i].overflow, s.duty.frozen, s.duty.halting⟩) } := by
  rw [State.offerAnswer_of_working hworking]
  simp [State.answer, hindex]

/-- The answer about no counter shows the value 0 and a clear flag. -/
theorem State.offerAnswer_of_no_counter (hindex : counterIndex index = none) (status : AnswerStatus) :
    s.offerAnswer index status = { s with
      outbound := s.outbound.offer (.countAnswer ⟨index, status.code, 0, false, s.duty.frozen, s.duty.halting⟩) } := by
  rw [State.offerAnswer_of_working hworking]
  simp [State.answer, hindex]

end Answer

/-! ### What each command does -/

/-- R154: the freeze of running counters and the withdrawal of the own halt. -/
theorem State.takeHalt_eq (s : State) (source : Nibble) :
    s.takeHalt source = { s with
      duty := if s.duty.frozen = true then s.duty else { s.duty with frozen := true, halting := source }
      outbound := { s.outbound with entries := dropKey .countHalt s.outbound.entries } } := rfl

section Requests

variable {s : State} {index : Byte} {i : Fin 4}

/-- R156: a frozen counter takes the value, and its overflow flag is cleared. -/
theorem State.takeLoad_of_frozen (hindex : counterIndex index = some i) (hfrozen : s.duty.frozen = true) (v : Quad) :
    s.takeLoad index v = { s with duty := s.duty.update i (Counter.load v) }.offerAnswer index .loaded := by
  simp [State.takeLoad, hindex, hfrozen]

/-- R156: a load is refused while RUNNING. -/
theorem State.takeLoad_of_running (hindex : counterIndex index = some i) (hrunning : s.duty.frozen = false) (v : Quad) :
    s.takeLoad index v = s.offerAnswer index .refusedRunning := by
  simp [State.takeLoad, hindex, hrunning]

theorem State.takeLoad_of_no_counter (hindex : counterIndex index = none) (v : Quad) :
    s.takeLoad index v = s.offerAnswer index .noSuchCounter := by
  simp [State.takeLoad, hindex]

theorem State.takeQuery_of_counter (hindex : counterIndex index = some i) :
    s.takeQuery index = s.offerAnswer index .value := by
  simp [State.takeQuery, hindex]

theorem State.takeQuery_of_no_counter (hindex : counterIndex index = none) :
    s.takeQuery index = s.offerAnswer index .noSuchCounter := by
  simp [State.takeQuery, hindex]

/-- R156, FROZEN: the load together with its answer, which shows the counter as loaded. -/
theorem State.takeLoad_answers_loaded (hworking : s.control.station.working = true)
    (hindex : counterIndex index = some i) (hfrozen : s.duty.frozen = true) (v : Quad) :
    s.takeLoad index v = { s with
      duty := s.duty.update i (Counter.load v)
      outbound := s.outbound.offer (.countAnswer ⟨index, 1, v, false, true, s.duty.halting⟩) } := by
  have hanswer := State.offerAnswer_of_counter (s := { s with duty := s.duty.update i (Counter.load v) }) hworking hindex
  rw [State.takeLoad_of_frozen hindex hfrozen, hanswer, Duty.update_counter, Duty.update_frozen, hfrozen]
  rfl

end Requests

/-! ### The settlements -/

/-- Settles O21: the command is the halt taken after hearing, and hearing leaves the counters and the list alone. -/
theorem countHaltFreezes : Obligations.CountHaltFreezes := by
  intro source target index s h
  calc exec (.countHalt source target index) s
      = .next (s.afterHearing.takeHalt source) := h.exec_countHalt index
    _ = _ := congrArg Host.Outcome.next (s.afterHearing.takeHalt_eq source)

/-- Settles O23: the command is the thaw after hearing, which by its definition writes the two fields of R155 alone. -/
theorem countThawRuns : Obligations.CountThawRuns := by
  intro target s h
  exact h.exec_countThaw

/-- Settles O24: an index 0 to 3 names a counter, and the freeze state decides between the two outcomes of a load; an
index from 4 up names none. Hearing leaves the counters and the list alone, so the answer shows the state before it. -/
theorem countRequestsAnswered : Obligations.CountRequestsAnswered := by
  intro target index v s h
  rw [h.exec_countLoad, h.exec_countQuery]
  have hworking : s.afterHearing.control.station.working = true := h.working
  refine ⟨fun i hi => ?counter, fun hi => ?noCounter⟩
  case counter =>
    have hindex := counterIndex_of_val hi
    have hanswer := State.offerAnswer_of_counter hworking hindex
    refine ⟨fun hfrozen => ?loaded, fun hrunning => ?refused, ?queried⟩
    case loaded => exact congrArg _ (State.takeLoad_answers_loaded hworking hindex hfrozen v)
    case refused =>
      have hrunning : s.afterHearing.duty.frozen = false := hrunning
      rw [State.takeLoad_of_running hindex hrunning, hanswer, hrunning]
      rfl
    case queried =>
      rw [State.takeQuery_of_counter hindex, hanswer]
      rfl
  case noCounter =>
    have hindex := counterIndex_of_ge hi
    have hanswer := State.offerAnswer_of_no_counter hworking hindex .noSuchCounter
    rw [State.takeLoad_of_no_counter hindex, State.takeQuery_of_no_counter hindex, hanswer]
    exact ⟨rfl, rfl⟩

end Sys2Proof.Machine

/-! ## The events across a reset

Laws of the flags, the level conditions, the outbound list and the two event sets at power-on reset and at RESTART
(R167, R168, R174), and the settlement of O6. -/

namespace Sys2Proof.Machine

/-! ### No event stands -/

/-- No event stands: no flag is latched, no telegram is pending or being sent, and every block that R170 reads for a
level condition is out of the state that makes the condition hold. -/
structure State.EventFree (s : State) : Prop where
  flags : s.flags = 0
  entries : s.outbound.entries = []
  slot : s.line.slot = none
  loop : s.wheel.loop = .off
  encoder : s.front.encoderFault = none
  fusion : s.steer.fusion = .blind
  flapL : s.steer.stuckL = false
  flapR : s.steer.stuckR = false
  returnState : s.ret.state = .idle
  cavitating : s.ret.cavitating = false
  station : s.control.station ≠ .clash
  sameSide : s.arb.sameSide = false
  inputs : ∀ i, (s.input i).status = .unread

theorem State.EventFree.levelHolds {s : State} (h : s.EventFree) (c : EventCode) : s.levelHolds c = false := by
  cases c with
  | wheelFaulted => simp [State.levelHolds, h.loop]
  | encoderFault => simp [State.levelHolds, h.encoder]
  | tiltDisagree => simp [State.levelHolds, h.fusion]
  | flapStuck => simp [State.levelHolds, h.flapL, h.flapR]
  | returnLimited | returnBlocked => simp [State.levelHolds, h.returnState]
  | cavitation => exact h.cavitating
  | stationClash => simp [State.levelHolds, h.station, h.sameSide]
  | sensorFault => simp [State.levelHolds, h.inputs]
  | lockGained | lockLost | wheelJam | depthJump | peerLost | valueClamped | markIrregular => rfl

/-! ### The resets leave no event standing -/

/-- An analog input after either reset has read nothing (R65). -/
theorem State.input_status_of_reset {s : State} (h : s.front.analog = FrontEnd.reset.analog) (i : Fin 4) :
    (s.input i).status = .unread := by
  simp [State.input, h, FrontEnd.reset, Analog.reset]

theorem State.powerOn_eventFree (s : State) (hold : ResetHold) : (s.powerOn hold).EventFree where
  flags := rfl
  entries := rfl
  slot := rfl
  loop := rfl
  encoder := rfl
  fusion := rfl
  flapL := rfl
  flapR := rfl
  returnState := rfl
  cavitating := rfl
  station := nofun
  sameSide := rfl
  inputs := State.input_status_of_reset rfl

/-- What RESTART keeps (R167) is no source of an event. -/
theorem State.restarted_eventFree (s : State) : s.restarted.EventFree :=
  { s.powerOn_eventFree s.hold with }

/-- Reading the straps moves station control to STRAP FAULT, READY or SETUP and starts the timer and the filters, and no
event arises from these (R159). -/
theorem State.EventFree.readStraps {s : State} (h : s.EventFree) (straps : Straps) :
    (s.readStraps straps).EventFree := by
  cases hvalid : strapsValid straps with
  | false =>
    rw [s.readStraps_invalid hvalid]
    exact { h with station := nofun }
  | true =>
    have hstation : (if settledAfter s.control straps then StationState.ready else .setup) ≠ .clash := by
      split <;> exact nofun
    rw [s.readStraps_valid hvalid]
    exact { h with station := hstation }

theorem State.restart_eventFree (s : State) (straps : Straps) : (s.restart straps).EventFree :=
  s.restarted_eventFree.readStraps straps

/-! ### The report mask and the urgency set -/

@[simp] theorem State.readStraps_params (s : State) (straps : Straps) :
    (s.readStraps straps).control.params = s.control.params := by
  cases hvalid : strapsValid straps with
  | false => rw [s.readStraps_invalid hvalid]
  | true => rw [s.readStraps_valid hvalid]

/-- RESTART keeps the parameter table (R167). -/
@[simp] theorem State.restart_params (s : State) (straps : Straps) :
    (s.restart straps).control.params = s.control.params :=
  s.restarted.readStraps_params straps

theorem State.reportMask_congr {s t : State} (h : t.control.params = s.control.params) :
    t.reportMask = s.reportMask := by
  rw [State.reportMask, State.param, h]
  rfl

theorem State.urgencySet_congr {s t : State} (h : t.control.params = s.control.params) :
    t.urgencySet = s.urgencySet := by
  rw [State.urgencySet, State.param, h]
  rfl

/-- The default of P4 reports every code (R171). -/
theorem inSet_reset_reportMask (c : EventCode) : inSet State.reset.reportMask c = true := by
  cases c <;> decide

/-- The default of P5 marks six codes as urgent (R171). -/
theorem inSet_reset_urgencySet (c : EventCode) : inSet State.reset.urgencySet c = true ↔
    c ∈ [.wheelJam, .wheelFaulted, .returnBlocked, .peerLost, .stationClash, .sensorFault] := by
  cases c <;> decide

/-! ### A RESTART that reaches station control -/

/-- R167: a RESTART for all reaches every state but STARTING, one for the own number every state but STRAP FAULT too. -/
theorem State.deliversRestart_of_target {s : State} {target : Nibble} (hstarting : s.control.station ≠ .starting)
    (htarget : target = 15 ∨ (target = s.number ∧ s.control.station ≠ .strapFault)) :
    s.deliversRestart 0 target = true := by
  have htargeted : s.targeted target = true := by
    rcases htarget with hall | ⟨hown, -⟩
    · simp [State.targeted, hall]
    · simp [State.targeted, hown]
  cases hstation : s.control.station with
  | starting => exact absurd hstation hstarting
  | strapFault =>
    have hall : target = 15 := htarget.resolve_right fun hown => hown.2 hstation
    simp [State.deliversRestart, fromCabin, hstation, hall]
  | setup | configFault | ready | active | clash => simp [State.deliversRestart, fromCabin, hstation, htargeted]

/-- A RESTART that reaches station control acts on the state after hearing it. -/
theorem State.exec_restart_of_target {s : State} {target : Nibble} (running : s.inReset = false)
    (notSending : s.line.slot = none) (hnumber : s.control.station.watches = true → s.number ≠ 0)
    (hstarting : s.control.station ≠ .starting)
    (htarget : target = 15 ∨ (target = s.number ∧ s.control.station ≠ .strapFault)) (straps : Straps) :
    exec (.restart 0 target straps) s = .next ((s.endTelegram.heardFrom 0).restart straps) := by
  have hdelivered := State.deliversRestart_of_target hstarting htarget
  have hreceives : s.receives = true := by simp [State.receives, running, notSending, hstarting]
  refine congrArg Host.Outcome.next ?_
  rcases s.receive_cases 0 (s.deliversRestart 0 target) fun t => t.restart straps with
    ⟨hr, -⟩ | ⟨-, hwatches, hown, -⟩ | ⟨-, -, -, hacts⟩ | ⟨-, -, hnot, -⟩
  · exact absurd (hreceives.symm.trans hr) nofun
  · exact absurd hown.symm (hnumber hwatches)
  · exact hacts
  · exact absurd (hdelivered.symm.trans hnot) nofun

/-! ### The settlement -/

/-- Settles O6: each reset leaves an event-free state; its parameter table is the default one at power-on reset and the
one before at RESTART, and P4 and P5 with it. -/
theorem resetsClearEvents : Obligations.ResetsClearEvents := by
  refine ⟨fun cause s t hexec => ?powerOn,
    fun target straps s t running notSending hnumber hstarting htarget hexec => ?restart⟩
  case powerOn =>
    obtain rfl : s.powerOn (s.hold.begin cause) = t := Host.Outcome.next.inj hexec
    have hfree := s.powerOn_eventFree (s.hold.begin cause)
    exact ⟨hfree.flags, hfree.levelHolds, hfree.entries, hfree.slot, inSet_reset_reportMask, inSet_reset_urgencySet⟩
  case restart =>
    rw [State.exec_restart_of_target running notSending hnumber hstarting htarget] at hexec
    obtain rfl := Host.Outcome.next.inj hexec
    have hfree := (s.endTelegram.heardFrom 0).restart_eventFree straps
    have hparams : ((s.endTelegram.heardFrom 0).restart straps).control.params = s.control.params := by simp
    exact ⟨hfree.flags, hfree.levelHolds, hfree.entries, hfree.slot, State.reportMask_congr hparams,
      State.urgencySet_congr hparams⟩

end Sys2Proof.Machine

/-! ## What a command can do

One inversion lemma for `exec` and one for `step`: every statement about all commands is read off the cases of
`Effect`. -/

namespace Sys2Proof.Machine

/-- The station right after a valid telegram from `source` has been heard. -/
def State.heard (s : State) (source : Nibble) : State := s.endTelegram.heardFrom source

/-- The station receives, and a telegram from `source` is no clash to it (R16, R18, R19). -/
structure State.Hears (s : State) (source : Nibble) : Prop where
  receives : s.receives = true
  noClash : ¬ (s.control.station.watches = true ∧ source = s.number)

/-- What command `c` can make of the station `s`, one constructor for each way. -/
inductive Effect (s : State) : Instr → State → Prop
  /-- The occasion of the command does not stand (log 1). -/
  | idle (c : Instr) : Effect s c s
  | powerOn (cause : ResetCause) : Effect s (.powerOnReset cause) (s.powerOn (s.hold.begin cause))
  /-- One cause of reset ends and another holds. -/
  | stillHeld (cause : ReleaseCause) (straps : Straps) (reset : s.inReset = true)
      (left : ((s.hold.finish cause).supply || (s.hold.finish cause).pin) = true) :
      Effect s (.resetRelease cause straps) { s with hold := s.hold.finish cause }
  /-- The last cause of reset ends. -/
  | released (cause : ReleaseCause) (straps : Straps) (reset : s.inReset = true)
      (left : ((s.hold.finish cause).supply || (s.hold.finish cause).pin) = false) :
      Effect s (.resetRelease cause straps) ((s.powerOn (s.hold.finish cause)).readStraps straps)
  | sampled (input : PulseInput) (level : Level) (running : s.inReset = false) :
      Effect s (.filterSample input level) (s.samplePulse input level)
  | converted (input : Fin 4) (raw : BitVec 12) (running : s.inReset = false) :
      Effect s (.analogConversion input raw) (s.convert input raw)
  | expired (running : s.inReset = false) (timer : s.marker.periodTimer.isSome = true) :
      Effect s .periodTimerExpiry s.timerExpired
  | computed (running : s.inReset = false) (timer : s.marker.computeTimer.isSome = true) :
      Effect s .computePoint s.computePoint
  | started (running : s.inReset = false) : Effect s .attemptStart s.tryStart
  | outbid (slot : Slot) (running : s.inReset = false) (sending : s.line.slot = some slot) :
      Effect s .attemptOutbid s.outbid
  | failed (slot : Slot) (running : s.inReset = false) (sending : s.line.slot = some slot) :
      Effect s .attemptFailed s.failed
  | sent (slot : Slot) (running : s.inReset = false) (sending : s.line.slot = some slot) :
      Effect s .attemptSent s.sent
  /-- A telegram that cannot be used (R5, R16). -/
  | discarded (c : Instr) (receives : s.receives = true) : Effect s c s.endTelegram
  /-- A telegram of the own number (R19). -/
  | clash (c : Instr) (receives : s.receives = true) : Effect s c s.endTelegram.ownNumberHeard
  /-- A telegram that no block takes (R17). -/
  | heard (c : Instr) (source : Nibble) (hears : s.Hears source) : Effect s c (s.heard source)
  | mark (source target : Nibble) (period : Half) (hears : s.Hears source)
      (reaches : s.deliversStation source target = true) :
      Effect s (.mark source target period) ((s.heard source).takeMark .other period)
  | countHalt (source target : Nibble) (index : Byte) (hears : s.Hears source)
      (reaches : s.deliversStation source target = true) :
      Effect s (.countHalt source target index) ((s.heard source).takeHalt source)
  | report (source target : Nibble) (content : Report) (hears : s.Hears source)
      (reaches : s.deliversStation source target = true) :
      Effect s (.report source target content) ((s.heard source).takeReport source.toNat content)
  | countThaw (source target : Nibble) (hears : s.Hears source) (reaches : s.deliversCabin source target = true) :
      Effect s (.countThaw source target) (s.heard source).takeThaw
  | demand (source target : Nibble) (fields : DemandFields) (hears : s.Hears source)
      (reaches : s.deliversCabin source target = true) :
      Effect s (.demand source target fields) ((s.heard source).takeDemand fields)
  | flagClear (source target : Nibble) (codes : Half) (hears : s.Hears source)
      (reaches : s.deliversCabin source target = true) :
      Effect s (.flagClear source target codes) ((s.heard source).clearFlags codes)
  | countLoad (source target : Nibble) (index : Byte) (value : Quad) (hears : s.Hears source)
      (reaches : s.deliversCabin source target = true) :
      Effect s (.countLoad source target index value) ((s.heard source).takeLoad index value)
  | countQuery (source target : Nibble) (index : Byte) (hears : s.Hears source)
      (reaches : s.deliversCabin source target = true) :
      Effect s (.countQuery source target index) ((s.heard source).takeQuery index)
  | setup (source target : Nibble) (param : Byte) (value : Half) (hears : s.Hears source)
      (reaches : s.deliversSetup source target = true) :
      Effect s (.setup source target param value) ((s.heard source).setupParam param.toNat value)
  | setupClose (source target : Nibble) (hears : s.Hears source) (reaches : s.deliversSetup source target = true) :
      Effect s (.setupClose source target) (s.heard source).validate
  | restart (source target : Nibble) (straps : Straps) (hears : s.Hears source)
      (reaches : s.deliversRestart source target = true) :
      Effect s (.restart source target straps) ((s.heard source).restart straps)

section

variable {s : State} {c : Instr}

theorem Effect.of_running {act : State → State} (h : s.inReset = false → Effect s c (act s)) :
    Effect s c (s.whileRunning act) := by
  unfold State.whileRunning
  split
  · exact .idle c
  · next hrunning => exact h (by simpa using hrunning)

/-- Receiving does nothing, meets a clash, hears, or acts after hearing. -/
theorem Effect.of_receive {source : Nibble} {delivered : Bool} {act : State → State}
    (h : s.Hears source → delivered = true → Effect s c (act (s.heard source))) :
    Effect s c (s.receive source delivered act) := by
  rcases s.receive_cases source delivered act with ⟨-, he⟩ | ⟨hr, -, -, he⟩ | ⟨hr, hn, hd, he⟩ | ⟨hr, hn, -, he⟩ <;> rw [he]
  · exact .idle c
  · exact .clash c hr
  · exact h ⟨hr, hn⟩ hd
  · exact .heard c source ⟨hr, hn⟩

theorem Effect.of_discard : Effect s c s.discard := by
  unfold State.discard
  split
  · next hr => exact .discarded c hr
  · exact .idle c

/-- An outcome of an attempt acts where the slot holds an entry (log 1). -/
theorem Effect.of_slot {act : State → State} (hempty : s.line.slot = none → act s = s)
    (h : ∀ slot, s.line.slot = some slot → Effect s c (act s)) : Effect s c (act s) := by
  cases hs : s.line.slot with
  | none => rw [hempty hs]; exact .idle c
  | some slot => exact h slot hs

theorem Effect.of_occasion {p : Bool} {t : State} (h : p = true → Effect s c t) : Effect s c (if p then t else s) := by
  split
  · next hp => exact h hp
  · exact .idle c

end

theorem Effect.of_release (s : State) (cause : ReleaseCause) (straps : Straps) :
    ∃ t, exec (.resetRelease cause straps) s = .next t ∧ Effect s (.resetRelease cause straps) t := by
  refine ⟨_, rfl, ?_⟩
  split
  · exact .idle _
  · next hreset =>
    split
    · next hleft => exact .stillHeld cause straps (by simpa using hreset) hleft
    · next hleft => exact .released cause straps (by simpa using hreset) (by simpa using hleft)

/-- The inversion of `exec`: a command does one of the things that `Effect` lists. -/
theorem exec_effect {c : Instr} {s t : State} (h : exec c s = .next t) : Effect s c t := by
  suffices heffect : ∃ u, exec c s = .next u ∧ Effect s c u by
    obtain ⟨u, hu, heffect⟩ := heffect
    obtain rfl : u = t := Host.Outcome.next.inj (hu.symm.trans h)
    exact heffect
  cases c with
  | powerOnReset cause => exact ⟨_, rfl, .powerOn cause⟩
  | resetRelease cause straps => exact Effect.of_release s cause straps
  | filterSample input level => exact ⟨_, rfl, .of_running (.sampled input level)⟩
  | analogConversion input raw => exact ⟨_, rfl, .of_running (.converted input raw)⟩
  | periodTimerExpiry => exact ⟨_, rfl, .of_running fun hr => .of_occasion (.expired hr)⟩
  | computePoint => exact ⟨_, rfl, .of_running fun hr => .of_occasion (.computed hr)⟩
  | attemptStart => exact ⟨_, rfl, .of_running .started⟩
  | attemptOutbid =>
    exact ⟨_, rfl, .of_running fun hr => .of_slot (fun he => by simp [State.outbid, he]) fun slot => .outbid slot hr⟩
  | attemptFailed =>
    exact ⟨_, rfl, .of_running fun hr => .of_slot (fun he => by simp [State.failed, he]) fun slot => .failed slot hr⟩
  | attemptSent =>
    exact ⟨_, rfl, .of_running fun hr => .of_slot (fun he => by simp [State.sent, he]) fun slot => .sent slot hr⟩
  | badTelegram => exact ⟨_, rfl, .of_discard⟩
  | malformedTelegram => exact ⟨_, rfl, .of_discard⟩
  | telegramHeard source => exact ⟨_, rfl, .of_receive nofun⟩
  | clashEntry => exact ⟨_, rfl, .of_occasion (.clash _)⟩
  | mark source target period => exact ⟨_, rfl, .of_receive (.mark source target period)⟩
  | countHalt source target index => exact ⟨_, rfl, .of_receive (.countHalt source target index)⟩
  | report source target content =>
    refine ⟨_, rfl, ?_⟩
    split
    · exact .of_receive (.report source target content)
    · exact .of_discard
  | countThaw source target => exact ⟨_, rfl, .of_receive (.countThaw source target)⟩
  | demand source target fields => exact ⟨_, rfl, .of_receive (.demand source target fields)⟩
  | flagClear source target codes => exact ⟨_, rfl, .of_receive (.flagClear source target codes)⟩
  | countLoad source target index value => exact ⟨_, rfl, .of_receive (.countLoad source target index value)⟩
  | countQuery source target index => exact ⟨_, rfl, .of_receive (.countQuery source target index)⟩
  | setup source target param value => exact ⟨_, rfl, .of_receive (.setup source target param value)⟩
  | setupClose source target => exact ⟨_, rfl, .of_receive (.setupClose source target)⟩
  | restart source target straps => exact ⟨_, rfl, .of_receive (.restart source target straps)⟩

/-- The invariant step, once: what every effect keeps and what does not look at the queue, every step keeps. -/
theorem step_keeps {P : State → Prop} (hqueue : ∀ s rest, P s → P { s with pending := rest })
    (heffect : ∀ s c t, P s → Effect s c t → P t) (s t : State) (hs : P s) (h : step s = .next t) : P t := by
  unfold step at h
  split at h
  · exact Host.Outcome.next.inj h ▸ hs
  · next c rest _ => exact heffect _ c t (hqueue s rest hs) (exec_effect h)

/-! ### The fields after hearing -/

section

variable (s : State) (n : Nibble)

@[simp] theorem State.heard_pending : (s.heard n).pending = s.pending := by simp [State.heard]
@[simp] theorem State.heard_hold : (s.heard n).hold = s.hold := by simp [State.heard]
@[simp] theorem State.heard_control : (s.heard n).control = s.control := by simp [State.heard]
@[simp] theorem State.heard_outbound : (s.heard n).outbound = s.outbound := by simp [State.heard]
@[simp] theorem State.heard_marker : (s.heard n).marker = s.marker := by simp [State.heard]
@[simp] theorem State.heard_ch0 : (s.heard n).ch0 = s.ch0 := by simp [State.heard]
@[simp] theorem State.heard_ch1 : (s.heard n).ch1 = s.ch1 := by simp [State.heard]
@[simp] theorem State.heard_row0 : (s.heard n).row0 = s.row0 := by simp [State.heard]
@[simp] theorem State.heard_rows : (s.heard n).rows = s.rows := by simp [State.heard]
@[simp] theorem State.heard_front : (s.heard n).front = s.front := by simp [State.heard]
@[simp] theorem State.heard_wheel : (s.heard n).wheel = s.wheel := by simp [State.heard]
@[simp] theorem State.heard_arb : (s.heard n).arb = s.arb := by simp [State.heard]
@[simp] theorem State.heard_steer : (s.heard n).steer = s.steer := by simp [State.heard]
@[simp] theorem State.heard_ret : (s.heard n).ret = s.ret := by simp [State.heard]
@[simp] theorem State.heard_duty : (s.heard n).duty = s.duty := by simp [State.heard]
@[simp] theorem State.heard_flags : (s.heard n).flags = s.flags := by simp [State.heard]

@[simp] theorem State.heard_slot : (s.heard n).line.slot = s.line.slot := by
  unfold State.heard State.heardFrom
  split <;> rfl

/-- Hearing changes the line interface alone. -/
theorem State.heard_frame : s.heard n = { s with line := (s.heard n).line } := by
  unfold State.heard State.heardFrom
  split <;> rfl

end

/-- A station that receives runs, is past STARTING and is not sending. -/
theorem State.receives_iff (s : State) :
    s.receives = true ↔ s.inReset = false ∧ s.control.station ≠ .starting ∧ s.line.slot = none := by
  simp [State.receives, and_assoc]

end Sys2Proof.Machine

/-! ## The outbound list invariant

What each operation of the list does to `ListInv` (R8, R10 to R15), the counting of the keys, and the settlements of O37,
O40 and O41. -/

namespace Sys2Proof.Machine

/-! ### The entries a station holds, wherever they stand -/

/-- The part of `ListInv` that does not look at the order of the entries. -/
structure HeldOk (held : List Entry) (next : Nat) : Prop where
  stamped : ∀ e ∈ held, e.stamp < next
  stampsDiffer : (held.map Entry.stamp).Nodup
  attempts : ∀ e ∈ held, e.attempts < 3
  contents : ∀ e ∈ held, e.content.sound

namespace HeldOk

variable {l m : List Entry} {n : Nat} {e e' : Entry}

theorem of_perm (h : HeldOk l n) (p : m.Perm l) : HeldOk m n where
  stamped x hx := h.stamped x (p.mem_iff.mp hx)
  stampsDiffer := (p.map Entry.stamp).nodup_iff.mpr h.stampsDiffer
  attempts x hx := h.attempts x (p.mem_iff.mp hx)
  contents x hx := h.contents x (p.mem_iff.mp hx)

theorem of_sublist (h : HeldOk l n) (p : m.Sublist l) : HeldOk m n where
  stamped x hx := h.stamped x (p.subset hx)
  stampsDiffer := h.stampsDiffer.sublist (p.map Entry.stamp)
  attempts x hx := h.attempts x (p.subset hx)
  contents x hx := h.contents x (p.subset hx)

/-- A new entry takes the next age stamp. -/
theorem cons_new (h : HeldOk l n) {c : Content} (hc : c.sound) : HeldOk (⟨c, n, 0⟩ :: l) (n + 1) where
  stamped x hx := by
    rcases List.mem_cons.mp hx with rfl | hx
    · exact Nat.lt_succ_self n
    · exact Nat.lt_succ_of_lt (h.stamped x hx)
  stampsDiffer := by
    refine List.nodup_cons.mpr ⟨fun hmem => ?_, h.stampsDiffer⟩
    obtain ⟨x, hx, hxn⟩ := List.mem_map.mp hmem
    exact (h.stamped x hx).ne hxn
  attempts := List.forall_mem_cons.mpr ⟨Nat.zero_lt_succ 2, h.attempts⟩
  contents := List.forall_mem_cons.mpr ⟨hc, h.contents⟩

/-- An entry may change where it keeps its age stamp. -/
theorem replace (h : HeldOk (e :: l) n) (hstamp : e'.stamp = e.stamp) (hattempts : e'.attempts < 3)
    (hcontent : e'.content.sound) : HeldOk (e' :: l) n where
  stamped := List.forall_mem_cons.mpr ⟨hstamp ▸ h.stamped e List.mem_cons_self, (List.forall_mem_cons.mp h.stamped).2⟩
  stampsDiffer := by
    have hd := h.stampsDiffer
    rw [List.map_cons] at hd ⊢
    rwa [hstamp]
  attempts := List.forall_mem_cons.mpr ⟨hattempts, (List.forall_mem_cons.mp h.attempts).2⟩
  contents := List.forall_mem_cons.mpr ⟨hcontent, (List.forall_mem_cons.mp h.contents).2⟩

theorem stamp_ne (h : HeldOk (e :: l) n) : ∀ x ∈ l, x.stamp ≠ e.stamp := fun _ hx he =>
  (List.nodup_cons.mp h.stampsDiffer).1 (he ▸ List.mem_map_of_mem hx)

end HeldOk

/-- Coalescing keeps the ranges of a content (R10, R11). -/
theorem Content.sound_coalesce {a b : Content} (ha : a.sound) (hb : b.sound) : (a.coalesce b).sound := by
  cases a with
  | notice =>
    cases b with
    | notice => simp only [Content.coalesce, Content.sound] at *; omega
    | mark | countHalt | report | countAnswer => exact ha
  | mark | countHalt | report | countAnswer => cases b <;> exact ha

theorem Entry.absorb_sound {c : Content} {e : Entry} (hc : c.sound) (he : e.content.sound) :
    (e.absorb c).content.sound := by
  unfold Entry.absorb
  split
  · exact Content.sound_coalesce he hc
  · exact he

/-- Absorbing leaves every age stamp and attempt count. -/
theorem HeldOk.map_absorb {l r : List Entry} {n : Nat} {c : Content} (h : HeldOk (r ++ l) n) (hc : c.sound) :
    HeldOk (r ++ l.map (Entry.absorb c)) n where
  stamped := by
    intro x hx
    rcases List.mem_append.mp hx with hx | hx
    · exact h.stamped x (List.mem_append_left _ hx)
    · obtain ⟨y, hy, rfl⟩ := List.mem_map.mp hx
      rw [Entry.absorb_stamp]
      exact h.stamped y (List.mem_append_right _ hy)
  stampsDiffer := by simpa [Function.comp_def] using h.stampsDiffer
  attempts := by
    intro x hx
    rcases List.mem_append.mp hx with hx | hx
    · exact h.attempts x (List.mem_append_left _ hx)
    · obtain ⟨y, hy, rfl⟩ := List.mem_map.mp hx
      rw [Entry.absorb_attempts]
      exact h.attempts y (List.mem_append_right _ hy)
  contents := by
    intro x hx
    rcases List.mem_append.mp hx with hx | hx
    · exact h.contents x (List.mem_append_left _ hx)
    · obtain ⟨y, hy, rfl⟩ := List.mem_map.mp hx
      exact Entry.absorb_sound hc (h.contents y (List.mem_append_right _ hy))

/-! ### The invariant of slot and list -/

/-- The entry in the slot, as a list. -/
def slotEntries (slot : Option Slot) : List Entry := (slot.map Slot.entry).toList

/-- `ListInv` said of the slot and the list alone. -/
structure ListOk (slot : Option Slot) (o : Outbound) : Prop where
  ordered : o.entries.Pairwise fun a b => a.before b = true
  oneForKey : (o.entries.map fun e => e.content.key).Nodup
  held : HeldOk (slotEntries slot ++ o.entries) o.nextStamp

theorem listInv_iff (s : State) : ListInv s ↔ ListOk s.line.slot s.outbound :=
  ⟨fun h => ⟨h.ordered, h.oneForKey, ⟨h.stamped, h.stampsDiffer, h.attempts, h.contents⟩⟩,
   fun h => ⟨h.ordered, h.oneForKey, h.held.stamped, h.held.stampsDiffer, h.held.attempts, h.held.contents⟩⟩

/-- `ListInv` looks at the slot and the list alone. -/
theorem ListInv.congr {s t : State} (h : ListInv s) (hslot : t.line.slot = s.line.slot) (hout : t.outbound = s.outbound) :
    ListInv t := by
  rw [listInv_iff] at h ⊢
  rwa [hslot, hout]

theorem listOk_empty (n : Nat) : ListOk none ⟨[], n⟩ := ⟨.nil, .nil, by constructor <;> simp [slotEntries]⟩

namespace ListOk

variable {slot : Option Slot} {o : Outbound}

theorem stamp_lt (h : ListOk slot o) {e : Entry} (he : e ∈ o.entries) : e.stamp < o.nextStamp :=
  h.held.stamped e (List.mem_append_right _ he)

/-- R10, R11: an offer of a sound content keeps the invariant. -/
theorem offer (h : ListOk slot o) {c : Content} (hc : c.sound) : ListOk slot (o.offer c) := by
  rcases o.offer_cases c with ⟨hnew, he⟩ | ⟨-, he⟩ <;> rw [he]
  case inl =>
    refine ⟨insertEntry_ordered h.ordered fun x hx => (h.stamp_lt hx).ne, ?_, ?_⟩
    · rw [((insertEntry_perm _ _).map _).nodup_iff, List.map_cons, List.nodup_cons]
      exact ⟨fun hmem => by obtain ⟨x, hx, hk⟩ := List.mem_map.mp hmem; exact hnew x hx hk, h.oneForKey⟩
    · exact (h.held.cons_new hc).of_perm (((insertEntry_perm _ _).append_left _).trans List.perm_middle)
  case inr =>
    refine ⟨?_, by simpa [Function.comp_def] using h.oneForKey, h.held.map_absorb hc⟩
    rw [List.pairwise_map]
    exact h.ordered.imp fun hab => by simpa [Entry.before] using hab

theorem foldl_offer (h : ListOk slot o) {cs : List Content} (hcs : ∀ c ∈ cs, c.sound) :
    ListOk slot (cs.foldl Outbound.offer o) := by
  induction cs generalizing o with
  | nil => exact h
  | cons c cs ih =>
    obtain ⟨hc, hcs⟩ := List.forall_mem_cons.mp hcs
    exact ih (h.offer hc) hcs

/-- Entries may leave the list, and the slot may empty (R9, R15). -/
theorem of_sublist (h : ListOk slot o) {slot' : Option Slot} {l : List Entry} (hl : l.Sublist o.entries)
    (hslot : (slotEntries slot').Sublist (slotEntries slot)) : ListOk slot' { o with entries := l } :=
  ⟨h.ordered.sublist hl, h.oneForKey.sublist (hl.map _), h.held.of_sublist (hslot.append hl)⟩

theorem withdraw (h : ListOk slot o) (k : Key) : ListOk slot (o.withdraw k) :=
  h.of_sublist List.filter_sublist (List.Sublist.refl _)

theorem empty (h : ListOk slot o) : ListOk none o := h.of_sublist (List.Sublist.refl _) (List.nil_sublist _)

/-- R6: the head of the list enters the empty slot. -/
theorem load {e : Entry} {rest : List Entry} {n : Nat} (h : ListOk none ⟨e :: rest, n⟩) (b : Byte) :
    ListOk (some ⟨e, b⟩) ⟨rest, n⟩ :=
  ⟨h.ordered.of_cons, (List.nodup_cons.mp h.oneForKey).2, h.held⟩

/-- R14: the entry of the slot, its attempt count raised or not, comes back to the list. -/
theorem giveBack {sl : Slot} (h : ListOk (some sl) o) {e : Entry} (hcontent : e.content = sl.entry.content)
    (hstamp : e.stamp = sl.entry.stamp) (hattempts : e.attempts < 3) : ListOk none (o.giveBack e) := by
  have hheld : HeldOk (e :: o.entries) o.nextStamp :=
    h.held.replace hstamp hattempts (hcontent ▸ h.held.contents sl.entry List.mem_cons_self)
  rcases o.giveBack_cases e with ⟨hnew, he⟩ | ⟨p, hp, hkey, he⟩ <;> rw [he]
  case inl =>
    refine ⟨insertEntry_ordered h.ordered hheld.stamp_ne, ?_, hheld.of_perm (insertEntry_perm _ _)⟩
    rw [((insertEntry_perm _ _).map _).nodup_iff, List.map_cons, List.nodup_cons]
    exact ⟨fun hmem => by obtain ⟨x, hx, hk⟩ := List.mem_map.mp hmem; exact hnew x hx hk, h.oneForKey⟩
  case inr =>
    have hdrop : (dropKey e.content.key o.entries).Sublist o.entries := List.filter_sublist
    have hmerged : HeldOk (e.absorbed p.content :: dropKey e.content.key o.entries) o.nextStamp :=
      (hheld.of_sublist (hdrop.cons_cons e)).replace rfl hattempts
        (Content.sound_coalesce (hheld.contents e List.mem_cons_self) (hheld.contents p (List.mem_cons_of_mem _ hp)))
    refine ⟨insertEntry_ordered (h.ordered.sublist hdrop) hmerged.stamp_ne, ?_,
      hmerged.of_perm (insertEntry_perm _ _)⟩
    rw [((insertEntry_perm _ _).map _).nodup_iff, List.map_cons, List.nodup_cons]
    refine ⟨fun hmem => ?_, h.oneForKey.sublist (hdrop.map _)⟩
    obtain ⟨x, hx, hk⟩ := List.mem_map.mp hmem
    exact (mem_dropKey.mp hx).2 (hk.trans ((Content.coalesce_key hkey.symm).trans hkey))

end ListOk

/-! ### Operations that only offer -/

/-- `t` holds the slot of `s` and the list of `s` after a series of offers. -/
def Offers (s t : State) : Prop :=
  t.line.slot = s.line.slot ∧ ∃ cs : List Content, (∀ c ∈ cs, c.sound) ∧ t.outbound = cs.foldl Outbound.offer s.outbound

namespace Offers

theorem of_eq {s t : State} (hslot : t.line.slot = s.line.slot) (hout : t.outbound = s.outbound) : Offers s t :=
  ⟨hslot, [], by simp, hout⟩

theorem trans {s t u : State} (hst : Offers s t) (htu : Offers t u) : Offers s u := by
  obtain ⟨hslot, cs, hcs, hout⟩ := hst
  obtain ⟨hslot', ds, hds, hout'⟩ := htu
  refine ⟨hslot'.trans hslot, cs ++ ds, ?_, by rw [hout', hout, List.foldl_append]⟩
  exact List.forall_mem_append.mpr ⟨hcs, hds⟩

theorem listInv {s t : State} (hst : Offers s t) (h : ListInv s) : ListInv t := by
  obtain ⟨hslot, cs, hcs, hout⟩ := hst
  rw [listInv_iff] at h ⊢
  rw [hslot, hout]
  exact h.foldl_offer hcs

/-- A series of steps that each only offer. -/
theorem foldl {α : Type} {f : State → α → State} (hf : ∀ s a, Offers s (f s a)) (s : State) (l : List α) :
    Offers s (l.foldl f s) := by
  induction l generalizing s with
  | nil => exact of_eq rfl rfl
  | cons a l ih => exact (hf s a).trans (ih (f s a))

theorem offer (s : State) {c : Content} (hc : c.sound) : Offers s (s.offer c) := by
  rw [State.offer_frame]
  split
  · exact ⟨rfl, [c], by simpa using hc, rfl⟩
  · exact of_eq rfl rfl

theorem raise (s : State) (code : EventCode) (detail : Int) : Offers s (s.raise code detail) := by
  unfold State.raise
  dsimp only
  split
  · exact offer { s with flags := s.flags ||| code.bit } (by decide : (1 : Nat) ≤ 1 ∧ 1 ≤ 255)
  · exact of_eq rfl rfl

theorem raiseAll (s : State) (l : List Raise) : Offers s (s.raiseAll l) :=
  foldl (α := Raise) (fun s r => raise s r.1 r.2) s l

/-- A change of other fields before a series of raises. -/
theorem raiseAll_of {s t : State} (hslot : t.line.slot = s.line.slot) (hout : t.outbound = s.outbound) (l : List Raise) :
    Offers s (t.raiseAll l) := (of_eq hslot hout).trans (raiseAll t l)

/-! The blocks that only offer. -/

theorem treatInput (s : State) (i : Fin 4) : Offers s (s.treatInput i) := by
  unfold State.treatInput
  dsimp only
  split
  · exact (of_eq (s := s) rfl rfl).trans (raise _ _ _)
  · exact of_eq rfl rfl

theorem formPair (s : State) : Offers s s.formPair := by
  unfold State.formPair
  dsimp only
  exact raiseAll_of rfl rfl _

theorem frontCompute (s : State) : Offers s s.frontCompute := by
  unfold State.frontCompute
  dsimp only
  refine trans ?_ (foldl treatInput _ _)
  split
  · exact (of_eq (s := s) rfl rfl).trans (formPair _)
  · exact of_eq rfl rfl

theorem roleCompute (s : State) : Offers s s.roleCompute := by
  unfold State.roleCompute
  split
  · exact raiseAll_of rfl rfl _
  · exact raiseAll_of rfl rfl _
  · exact raiseAll_of rfl rfl _
  · exact of_eq rfl rfl

theorem evalCounter (s : State) (i : Fin 4) : Offers s (s.evalCounter i) := by
  have hsound : (Content.countHalt (BitVec.ofNat 8 i.val)).sound := by revert i; unfold Content.sound; decide
  unfold State.evalCounter
  dsimp only
  split
  · exact of_eq rfl rfl
  · split
    · exact (of_eq (s := s) rfl rfl).trans (offer _ hsound)
    · exact of_eq rfl rfl

theorem dutyCompute (s : State) : Offers s s.dutyCompute := by
  unfold State.dutyCompute
  split
  · exact of_eq rfl rfl
  · exact foldl evalCounter s _

theorem computePoint (s : State) : Offers s s.computePoint := by
  have hstop : Offers s s.stopCompute := of_eq rfl rfl
  unfold State.computePoint
  split
  · refine hstop.trans ?_
    unfold State.runCompute
    have hnote : Offers s.stopCompute s.stopCompute.noteSample := of_eq rfl rfl
    have hrole := (hnote.trans (frontCompute _)).trans (roleCompute _)
    exact (hrole.trans (of_eq (t := State.applyAtCompute _) rfl rfl)).trans (dutyCompute _)
  · exact hstop

theorem checkMark (s : State) (n : Half) : Offers s (s.checkMark n) := by
  unfold State.checkMark
  split
  · exact raise s _ _
  · exact of_eq rfl rfl

theorem ageRows (s : State) : Offers s s.ageRows := by
  unfold State.ageRows
  dsimp only
  exact raiseAll_of rfl rfl _

theorem timerExpired (s : State) : Offers s s.timerExpired :=
  (offer s (c := .mark _) trivial).trans (of_eq rfl rfl)

theorem stopArrival (s : State) : Offers s s.stopArrival := by
  unfold State.stopArrival
  split
  · exact raiseAll_of rfl rfl _
  · exact of_eq rfl rfl
  · exact of_eq rfl rfl
  · exact of_eq rfl rfl

theorem demandTaken (s : State) (f : DemandFields) (d : DemandContent) : Offers s (s.demandTaken f d) := by
  have htold := raiseAll s ((clampedFields (s.role == some .ret) f d).map fun n => (EventCode.valueClamped, n))
  unfold State.demandTaken
  dsimp only
  generalize State.raiseAll s _ = told at htold ⊢
  split
  · refine trans ?_ (stopArrival _)
    split <;> exact htold.trans (of_eq rfl rfl)
  · split <;> exact htold.trans (of_eq rfl rfl)

theorem takeDemand (s : State) (f : DemandFields) : Offers s (s.takeDemand f) := by
  unfold State.takeDemand
  dsimp only
  split
  · exact trans (t := s.refreshRow0 (handleDemand s.directionBefore f)) (of_eq rfl rfl) (demandTaken _ _ _)
  · exact of_eq rfl rfl

theorem offerAnswer (s : State) (index : Byte) (status : AnswerStatus) : Offers s (s.offerAnswer index status) :=
  offer s (c := .countAnswer _) trivial

theorem takeLoad (s : State) (index : Byte) (v : Quad) : Offers s (s.takeLoad index v) := by
  unfold State.takeLoad
  split
  · exact offerAnswer s _ _
  · split
    · exact (of_eq (s := s) rfl rfl).trans (offerAnswer _ _ _)
    · exact offerAnswer s _ _

theorem takeQuery (s : State) (index : Byte) : Offers s (s.takeQuery index) := by
  unfold State.takeQuery
  split <;> exact offerAnswer s _ _

end Offers

/-- Storing a parameter leaves slot and list. -/
theorem State.stored_line (s : State) (n : Nat) : (s.stored n).line = s.line ∧ (s.stored n).outbound = s.outbound := by
  unfold State.stored
  split
  · exact ⟨rfl, rfl⟩
  · split <;> exact ⟨rfl, rfl⟩

theorem Offers.setupParam (s : State) (n : Nat) (v : Half) : Offers s (s.setupParam n v) := by
  unfold State.setupParam
  split
  · exact .of_eq rfl rfl
  · dsimp only
    obtain ⟨hline, hout⟩ := State.stored_line _ n
    refine Offers.trans ?_ (.of_eq (by rw [hline]) hout)
    refine Offers.trans ?_ (.of_eq rfl rfl)
    split
    · exact .of_eq rfl rfl
    · exact raise s _ _

/-! ### The operations that do more than offer -/

theorem ListInv.withdraw {s t : State} (h : ListInv s) {k : Key} (hslot : t.line.slot = s.line.slot)
    (hout : t.outbound = s.outbound.withdraw k) : ListInv t := by
  rw [listInv_iff] at h ⊢
  rw [hslot, hout]
  exact h.withdraw k

theorem ListInv.emptySlot {s : State} (h : ListInv s) (r : Receiver) : ListInv (s.emptySlot r) :=
  (listInv_iff _).mpr ((listInv_iff s).mp h).empty

theorem ListInv.freezeOwn {s : State} (h : ListInv s) : ListInv s.freezeOwn := h.withdraw rfl rfl

theorem ListInv.windowMark {s : State} (h : ListInv s) : ListInv s.windowMark := h.congr (by simp) (by simp)

theorem ListInv.handoff {s : State} (h : ListInv s) : ListInv s.handoff := h.congr (by simp) (by simp)

/-- R26: a mark raises, withdraws the pending MARK, and offers. -/
theorem ListInv.takeMark {s : State} (h : ListInv s) (origin : MarkOrigin) (n : Half) : ListInv (s.takeMark origin n) := by
  unfold State.takeMark
  dsimp only
  split
  · have hline : (s.line.atMark origin).slot = s.line.slot := by cases origin <;> rfl
    have hheard : ListInv { s with line := s.line.atMark origin } := h.congr hline rfl
    have hset := ((Offers.checkMark _ n).listInv hheard).withdraw (t := State.setMark _ n) rfl rfl
    have hclosed := hset.congr (t := (State.setMark _ n).applyAtMark.closePeriod s.marker.firstMark) rfl rfl
    exact (Offers.offer _ (c := .report _) trivial).listInv ((Offers.ageRows _).listInv hclosed).windowMark.handoff
  · exact h

/-- R6: an attempt moves an entry from the list to the slot. -/
theorem ListInv.tryStart {s : State} (h : ListInv s) : ListInv s.tryStart := by
  unfold State.tryStart
  split
  · next hstart =>
    unfold State.loadSlot
    split
    · exact h
    · next e rest hentries =>
      rw [listInv_iff] at h ⊢
      have hlist : ListOk none ⟨e :: rest, s.outbound.nextStamp⟩ := by rw [← hentries, ← hstart.1]; exact h
      exact hlist.load _
  · exact h

/-- R14: an outbid entry returns. -/
theorem ListInv.outbid {s : State} (h : ListInv s) {slot : Slot} (hslot : s.line.slot = some slot) :
    ListInv s.outbid := by
  rw [listInv_iff, hslot] at h
  rw [State.outbid, hslot, listInv_iff]
  exact h.giveBack rfl rfl (h.held.attempts slot.entry List.mem_cons_self)

/-- R8: an entry below its third failure returns. -/
theorem ListInv.failed {s : State} (h : ListInv s) {slot : Slot} (hslot : s.line.slot = some slot) :
    ListInv s.failed := by
  have hentry : ListInv ((s.emptySlot .between).failEntry slot.entry) := by
    unfold State.failEntry
    split
    · split
      · exact (h.emptySlot _).freezeOwn
      · exact h.emptySlot _
      · exact h.emptySlot _
      · exact h.emptySlot _
      · exact h.emptySlot _
    · next hthird =>
      rw [listInv_iff, hslot] at h
      rw [listInv_iff]
      exact h.giveBack rfl rfl (Nat.lt_of_not_le hthird)
  simp only [State.failed, hslot]
  split
  · exact (h.emptySlot _).takeMark _ _
  · exact hentry
  · exact hentry
  · exact hentry
  · exact hentry

theorem ListInv.sent {s : State} (h : ListInv s) : ListInv s.sent := by
  unfold State.sent
  split
  · exact h
  · split
    · exact (h.emptySlot _).takeMark _ _
    · exact (h.emptySlot _).freezeOwn
    · exact h.emptySlot _
    · exact h.emptySlot _
    · exact h.emptySlot _

theorem ListInv.ownNumberHeard {s : State} (h : ListInv s) (hslot : s.line.slot = none) : ListInv s.ownNumberHeard := by
  have hsound : s.clashNotice.sound := (by decide : (1 : Nat) ≤ 1 ∧ 1 ≤ 255)
  unfold State.ownNumberHeard
  split
  · rw [listInv_iff, State.enterClash_line, hslot]
    exact (listOk_empty s.outbound.nextStamp).offer hsound
  · split
    · unfold State.clashAgain
      split
      · exact Offers.listInv (s := s) ⟨rfl, [s.clashNotice], by simpa using hsound, rfl⟩ h
      · exact h.congr rfl rfl
    · exact h

/-! ### The step -/

theorem State.readStraps_slot (s : State) (straps : Straps) :
    (s.readStraps straps).line = s.line ∧ (s.readStraps straps).outbound = s.outbound := by
  unfold State.readStraps
  dsimp only
  split <;> exact ⟨rfl, rfl⟩

/-- A reset empties slot and list (R22). -/
theorem listInv_of_reset {s : State} (hslot : s.line.slot = none) (hentries : s.outbound = Outbound.reset) : ListInv s := by
  rw [listInv_iff, hslot, hentries]
  exact listOk_empty 0

theorem Effect.listInv {s t : State} {c : Instr} (h : ListInv s) (heffect : Effect s c t) : ListInv t := by
  have hheard (source : Nibble) : ListInv (s.heard source) := h.congr (by simp) (by simp)
  cases heffect with
  | idle => exact h
  | powerOn => exact listInv_of_reset rfl rfl
  | stillHeld => exact h.congr rfl rfl
  | released cause straps =>
    obtain ⟨hline, hout⟩ := (s.powerOn (s.hold.finish cause)).readStraps_slot straps
    exact listInv_of_reset (by rw [hline]; rfl) (by rw [hout]; rfl)
  | sampled => exact h.congr (by simp) (by simp)
  | converted => exact h.congr rfl rfl
  | expired => exact (Offers.timerExpired s).listInv h
  | computed => exact (Offers.computePoint s).listInv h
  | started => exact h.tryStart
  | outbid slot _ hslot => exact h.outbid hslot
  | failed slot _ hslot => exact h.failed hslot
  | sent => exact h.sent
  | discarded => exact h.congr rfl rfl
  | clash _ hreceives =>
    have hslot : s.endTelegram.line.slot = none := (s.receives_iff.mp hreceives).2.2
    exact (h.congr (t := s.endTelegram) rfl rfl).ownNumberHeard hslot
  | heard => exact hheard _
  | mark => exact (hheard _).takeMark _ _
  | countHalt => exact (hheard _).withdraw (k := .countHalt) rfl rfl
  | report source => exact (hheard source).congr (by simp) (by simp)
  | countThaw => exact (hheard _).congr rfl rfl
  | demand => exact (Offers.takeDemand _ _).listInv (hheard _)
  | flagClear => exact (hheard _).congr rfl rfl
  | countLoad => exact (Offers.takeLoad _ _ _).listInv (hheard _)
  | countQuery => exact (Offers.takeQuery _ _).listInv (hheard _)
  | setup => exact (Offers.setupParam _ _ _).listInv (hheard _)
  | setupClose source => exact (hheard source).congr (by simp) (by simp)
  | restart source _ straps =>
    obtain ⟨hline, hout⟩ := (s.heard source).restarted.readStraps_slot straps
    exact listInv_of_reset (by rw [State.restart, hline]; rfl) (by rw [State.restart, hout]; rfl)

/-- Settles O40: every command offers, withdraws, loads, returns or empties, and each of these keeps the invariant. -/
theorem stepKeepsListInv : Obligations.StepKeepsListInv :=
  step_keeps (fun _ _ h => h.congr rfl rfl) fun _ _ _ h heffect => heffect.listInv h

/-! ### The keys -/

/-- The keys of R10. -/
def allKeys : List Key :=
  [.mark, .countHalt, .report] ++ EventCode.all.map .notice ++
    [.countAnswer none, .countAnswer (some 0), .countAnswer (some 1), .countAnswer (some 2), .countAnswer (some 3)]

theorem EventCode.mem_all (c : EventCode) : c ∈ EventCode.all := by cases c <;> decide

theorem Content.key_mem_allKeys (c : Content) : c.key ∈ allKeys := by
  cases c with
  | mark | countHalt | report => simp [Content.key, allKeys]
  | notice _ code => simp [Content.key, allKeys, code.mem_all]
  | countAnswer a =>
    simp only [Content.key, allKeys]
    split
    · next hlt => interval_cases a.index.toNat <;> simp
    · simp

/-- Settles O41: one pending entry for each of 24 keys. -/
theorem listHasAtMost24Entries : Obligations.ListHasAtMost24Entries := by
  intro s h
  have hsubset : (s.outbound.entries.map fun e => e.content.key) ⊆ allKeys := by
    intro k hk
    obtain ⟨e, -, rfl⟩ := List.mem_map.mp hk
    exact e.content.key_mem_allKeys
  calc s.outbound.entries.length
      = (s.outbound.entries.map fun e => e.content.key).length := (List.length_map _).symm
    _ ≤ allKeys.length := (List.subperm_of_subset h.oneForKey hsubset).length_le
    _ = 24 := rfl

/-! ### One offer -/

theorem Entry.absorb_of_key_ne {c : Content} {e : Entry} (h : e.content.key ≠ c.key) : e.absorb c = e :=
  if_neg (by simpa using h)

theorem Entry.absorb_of_key_eq {c : Content} {e : Entry} (h : e.content.key = c.key) : e.absorb c = e.absorbed c :=
  if_pos (by simpa using h)

/-- R11: an offer changes the entry of its key where it stands, and no other. -/
theorem Outbound.offer_of_pending {o : Outbound} {c : Content} {l r : List Entry} {p : Entry}
    (ho : o.entries = l ++ p :: r) (hp : p.content.key = c.key) (hother : ∀ e ∈ l ++ r, e.content.key ≠ c.key) :
    o.offer c = { o with entries := l ++ p.absorbed c :: r } := by
  have hkeep (m : List Entry) (hm : ∀ e ∈ m, e.content.key ≠ c.key) : m.map (Entry.absorb c) = m :=
    (List.map_congr_left fun e he => Entry.absorb_of_key_ne (hm e he)).trans (List.map_id' m)
  obtain ⟨hl, hr⟩ := List.forall_mem_append.mp hother
  rcases o.offer_cases c with ⟨hnew, -⟩ | ⟨-, he⟩
  · exact absurd hp (hnew p (by simp [ho]))
  · rw [he, ho, List.map_append, List.map_cons, hkeep l hl, hkeep r hr, Entry.absorb_of_key_eq hp]

/-- Settles O37: the two ways of an offer, and of the second the table of R11 by the kind of the item. -/
theorem offerCreatesOrCoalesces : Obligations.OfferCreatesOrCoalesces := by
  intro o c
  refine ⟨fun hnew => ?created, fun l p r ho hp hother => ?coalesced⟩
  case created =>
    rcases o.offer_cases c with ⟨-, he⟩ | ⟨⟨e, hmem, hkey⟩, -⟩
    · rw [he]
      exact ⟨insertEntry_perm _ _, rfl⟩
    · exact absurd hkey (hnew e hmem)
  case coalesced =>
    refine ⟨p.absorbed c, Outbound.offer_of_pending ho hp hother, rfl, rfl, ?_⟩
    obtain ⟨content, stamp, attempts⟩ := p
    simp only [Entry.absorbed]
    split <;> first | rfl | trivial

end Sys2Proof.Machine

/-! ## The step, the resets and the terminals

The settlements of O1 to O5, O7, O8, O36 and O38. -/

namespace Sys2Proof.Machine

/-! ### The step -/

/-- Settles O1: `step` looks at the front of the queue. -/
theorem stepRunsFrontCommand : Obligations.StepRunsFrontCommand :=
  ⟨fun c rest s h => by rw [step, h], fun s h => by rw [step, h]⟩

/-- While reset holds the part, a command changes it only as one of the two reset commands (R168). -/
theorem Effect.of_reset {s t : State} {c : Instr} (h : Effect s c t) (hreset : s.inReset = true) :
    t = s ∨ (∃ k, c = .powerOnReset k ∧ t = s.powerOn (s.hold.begin k)) ∨
      ∃ k st, c = .resetRelease k st ∧
        (((s.hold.finish k).supply || (s.hold.finish k).pin) = true ∧ t = { s with hold := s.hold.finish k } ∨
          ((s.hold.finish k).supply || (s.hold.finish k).pin) = false ∧
            t = (s.powerOn (s.hold.finish k)).readStraps st) := by
  have hrunning : s.inReset ≠ false := by simp [hreset]
  have hdeaf : s.receives ≠ true := by simp [State.receives, hreset]
  cases h with
  | idle => exact .inl rfl
  | powerOn cause => exact .inr (.inl ⟨cause, rfl, rfl⟩)
  | stillHeld cause straps _ left => exact .inr (.inr ⟨cause, straps, rfl, .inl ⟨left, rfl⟩⟩)
  | released cause straps _ left => exact .inr (.inr ⟨cause, straps, rfl, .inr ⟨left, rfl⟩⟩)
  | sampled _ _ running => exact absurd running hrunning
  | converted _ _ running => exact absurd running hrunning
  | expired running => exact absurd running hrunning
  | computed running => exact absurd running hrunning
  | started running => exact absurd running hrunning
  | outbid _ running => exact absurd running hrunning
  | failed _ running => exact absurd running hrunning
  | sent _ running => exact absurd running hrunning
  | discarded _ receives => exact absurd receives hdeaf
  | clash _ receives => exact absurd receives hdeaf
  | heard _ _ hears => exact absurd hears.receives hdeaf
  | mark _ _ _ hears => exact absurd hears.receives hdeaf
  | countHalt _ _ _ hears => exact absurd hears.receives hdeaf
  | report _ _ _ hears => exact absurd hears.receives hdeaf
  | countThaw _ _ hears => exact absurd hears.receives hdeaf
  | demand _ _ _ hears => exact absurd hears.receives hdeaf
  | flagClear _ _ _ hears => exact absurd hears.receives hdeaf
  | countLoad _ _ _ _ hears => exact absurd hears.receives hdeaf
  | countQuery _ _ _ hears => exact absurd hears.receives hdeaf
  | setup _ _ _ _ hears => exact absurd hears.receives hdeaf
  | setupClose _ _ hears => exact absurd hears.receives hdeaf
  | restart _ _ _ hears => exact absurd hears.receives hdeaf

/-! ### Power-on reset -/

theorem ResetHold.begin_holds (h : ResetHold) (cause : ResetCause) :
    ((h.begin cause).supply || (h.begin cause).pin) = true := by
  cases cause <;> simp [ResetHold.begin]

/-- Settles O2: the onset writes the power-on state and holds the part; a held part answers no command but a reset. -/
theorem powerOnResetHolds : Obligations.PowerOnResetHolds := by
  refine ⟨fun cause s => ?onset, fun c s hreset hpower hrelease => ?held⟩
  case onset =>
    have hholds : (s.powerOn (s.hold.begin cause)).inReset = true := s.hold.begin_holds cause
    obtain ⟨hcode0, hcode1⟩ := State.outputCodes_of_dark (.inl hholds)
    refine ⟨_, rfl, ?_, hholds, hcode0, hcode1⟩
    cases cause <;> rfl
  case held =>
    obtain ⟨t, ht⟩ := exec_answers_next c s
    rcases (exec_effect ht).of_reset hreset with rfl | ⟨k, hk, -⟩ | ⟨k, st, hk, -⟩
    · exact ht
    · exact absurd hk (hpower k)
    · exact absurd hk (hrelease k st)

theorem par_paramDefaults {n : Nat} {r : ParamRow} (h : paramRow n = some r) : par paramDefaults n = r.default := by
  have known : ∀ m : Fin 74, ∀ r, paramRow m.val = some r → par paramDefaults m = r.default := by decide +kernel
  have hn := (paramRow_isSome_iff n).mp (by rw [h]; rfl)
  exact known ⟨n, by omega⟩ r h

theorem State.reset_row (n : Nat) : State.reset.row n = .never := by
  unfold State.row State.reset
  split
  · rfl
  · by_cases hn : n - 1 < 14 <;> simp [hn]

/-- An analog input after either reset (R65). -/
theorem State.input_of_reset {s : State} (h : s.front.analog = FrontEnd.reset.analog) (i : Fin 4) :
    s.input i = Analog.reset := by
  simp [State.input, h, FrontEnd.reset]

/-- Settles O3: `State.reset` is written out with these values; the defaults are read off the parameter table. -/
theorem resetValuesAsStated : Obligations.ResetValuesAsStated := by
  have hpulse : ∀ p ∈ [Pulse.reset, Pulse.reset],
      p.running = false ∧ p.primed = false ∧ p.count = 0 ∧ p.ring = [] ∧ p.speed = 0 := by decide
  have hinput (i : Fin 4) : State.reset.input i = Analog.reset := State.input_of_reset rfl i
  have hcounter : ∀ i : Fin 4, Duty.reset.counters[i] = ⟨0, false, false⟩ := by decide
  exact ⟨rfl, rfl, fun n r => par_paramDefaults, rfl, rfl, rfl, rfl, rfl, rfl, rfl, rfl, rfl, rfl, State.reset_row, hpulse,
    rfl, rfl, fun i => by rw [hinput i]; exact ⟨rfl, rfl, rfl⟩, rfl, rfl, rfl, rfl, hcounter, rfl, rfl, rfl⟩

/-! ### The release of a reset -/

section Release

variable {s : State} (cause : ReleaseCause) (straps : Straps)

theorem exec_resetRelease_of_held (hreset : s.inReset = true)
    (hleft : (s.hold.finish cause).supply = true ∨ (s.hold.finish cause).pin = true) :
    exec (.resetRelease cause straps) s = .next { s with hold := s.hold.finish cause } := by
  simp [exec, execResetRelease, hreset, hleft]

theorem exec_resetRelease_of_last (hreset : s.inReset = true) (hsupply : (s.hold.finish cause).supply = false)
    (hpin : (s.hold.finish cause).pin = false) :
    exec (.resetRelease cause straps) s = .next ((s.powerOn (s.hold.finish cause)).readStraps straps) := by
  simp [exec, execResetRelease, hreset, hsupply, hpin]

end Release

theorem strapsValid_eq_false_iff (st : Straps) :
    strapsValid st = false ↔ st.number = 0 ∨ st.number = 15 ∨ st.role = 3 := by
  rw [← Bool.not_eq_true, strapsValid_iff]
  tauto

/-- The period timer's first length, under the default of P1. -/
theorem parN_paramDefaults_1 : parN paramDefaults 1 = 10 := by decide

/-- Settles O4: the cause left decides between a held part and a strap reading; the reading has the two outcomes of
`readStraps`. -/
theorem resetReleaseReadsStraps : Obligations.ResetReleaseReadsStraps := by
  intro cause straps s hreset left
  have hleft : s.hold.finish cause = left := by cases cause <;> rfl
  have hlast (hsupply : left.supply = false) (hpin : left.pin = false) :
      exec (.resetRelease cause straps) s = .next ((s.powerOn left).readStraps straps) := by
    rw [← hleft] at hsupply hpin ⊢
    exact exec_resetRelease_of_last cause straps hreset hsupply hpin
  refine ⟨fun hheld => ?held, fun hsupply hpin hbad => ?fault, fun hsupply hpin hnumber hbroadcast hrole => ?setup⟩
  case held =>
    rw [← hleft] at hheld ⊢
    exact exec_resetRelease_of_held cause straps hreset hheld
  case fault =>
    rw [hlast hsupply hpin, State.readStraps_invalid _ ((strapsValid_eq_false_iff straps).mpr hbad)]
    rfl
  case setup =>
    rw [hlast hsupply hpin, State.readStraps_valid _ ((strapsValid_iff straps).mpr ⟨hnumber, hbroadcast, hrole⟩)]
    have hlength : 1000 * parN (s.powerOn left).control.params 1 = 10000 := congrArg (1000 * ·) parN_paramDefaults_1
    rw [hlength]
    rfl

/-! ### RESTART -/

/-- RESTART resets the line interface, so that what was heard before does not show in it. -/
theorem State.restart_heard (s : State) (n : Nibble) (straps : Straps) :
    (s.heard n).restart straps = s.restart straps := by
  rw [s.heard_frame n]
  rfl

theorem State.restarted_counter (s : State) (i : Fin 4) :
    s.restarted.duty.counters[i] = { s.duty.counters[i] with previous := false } := by
  simp [State.restarted, Counter.restarted]

/-- The settled flag after a strap reading with a valid role (R162). -/
theorem settledAfter_of_role {c : Control} {straps : Straps} {role : Role} (h : roleOfCode straps.role = some role) :
    settledAfter c straps = (c.settled && c.validatedRole == some role) := by
  simp [settledAfter, h]

/-- The parts of the station that a strap reading leaves alone. -/
theorem State.readStraps_frame (s : State) (straps : Straps) :
    s.readStraps straps = { s with
      control := (s.readStraps straps).control, marker := (s.readStraps straps).marker
      front := (s.readStraps straps).front } := by
  cases hvalid : strapsValid straps with
  | false => rw [s.readStraps_invalid hvalid]
  | true => rw [s.readStraps_valid hvalid]

/-- Settles O5: RESTART restores the reset state but for what R167 keeps, and reads the straps. -/
theorem restartKeepsWhatItMust : Obligations.RestartKeepsWhatItMust := by
  intro target straps s running notSending hnumber hstarting htarget
  refine ⟨s.restart straps, ?exec, ?frame, ?counters, ?control, ?cleared, ?kept, ?straps⟩
  case exec =>
    rw [State.exec_restart_of_target running notSending hnumber hstarting htarget]
    exact congrArg _ (s.restart_heard 0 straps)
  case frame =>
    conv_lhs => rw [State.restart, State.readStraps_frame]
    rw [State.restart, State.readStraps_frame]
    rfl
  case counters =>
    intro i
    rw [State.restart, State.readStraps_frame]
    exact s.restarted_counter i
  case control =>
    cases hvalid : strapsValid straps with
    | false => rw [State.restart, s.restarted.readStraps_invalid hvalid]; rfl
    | true => rw [State.restart, s.restarted.readStraps_valid hvalid]; rfl
  all_goals
    have hsettled : (s.restart straps).control.settled = settledAfter s.control straps := by
      cases hvalid : strapsValid straps with
      | false => rw [State.restart, s.restarted.readStraps_invalid hvalid]; rfl
      | true => rw [State.restart, s.restarted.readStraps_valid hvalid]; rfl
  case cleared =>
    intro role hrole hother
    rw [hsettled, settledAfter_of_role hrole]
    simp [hother]
  case kept =>
    intro role hrole hsame
    rw [hsettled, settledAfter_of_role hrole]
    simp [hsame]
  case straps =>
    split
    · next hbad =>
      rw [State.restart, s.restarted.readStraps_invalid ((strapsValid_eq_false_iff straps).mpr hbad)]
      exact ⟨rfl, rfl, rfl⟩
    · next hgood =>
      have hvalid : strapsValid straps = true := by
        rw [← Bool.not_eq_false, strapsValid_eq_false_iff]
        exact hgood
      rw [State.restart, s.restarted.readStraps_valid hvalid]
      exact ⟨rfl, rfl, rfl⟩

/-! ### The terminals -/

theorem satSucc_min (bound n : Nat) : satSucc bound n = min bound (n + 1) := by
  unfold satSucc
  split <;> omega

theorem State.whileRunning_of_running {s : State} (h : s.inReset = false) (act : State → State) :
    s.whileRunning act = act s := by simp [State.whileRunning, h]

theorem edgeSelected_iff (select : Int) (level : Level) :
    edgeSelected select level = true ↔ select = 2 ∨ (select = 0 ∧ level = .high) ∨ (select = 1 ∧ level = .low) := by
  simp [edgeSelected, or_assoc]

/-- Settles O7: a sample by the four branches of the filter. -/
theorem filterSampleAcceptsEdge : Obligations.FilterSampleAcceptsEdge := by
  unfold Obligations.FilterSampleAcceptsEdge
  intro sampled level s running
  have hsample (select : Int) (p : Pulse) : p.sample select level = sampled select level p := by
    simp only [sampled, Pulse.sample, Bool.not_eq_true', edgeSelected_iff, satSucc_min]
  exact ⟨congrArg _ ((State.whileRunning_of_running running _).trans (by simp only [State.samplePulse, hsample])),
    congrArg _ ((State.whileRunning_of_running running _).trans (by simp only [State.samplePulse, hsample]))⟩

theorem State.convert_input (s : State) (i j : Fin 4) (raw : BitVec 12) :
    (s.convert i raw).input j = if j = i then { s.input i with raw := raw } else s.input j := by
  unfold State.convert State.input
  by_cases hj : j = i
  · simp [hj]
  · have hval : i.val ≠ j.val := fun e => hj (Fin.ext e.symm)
    simp [hj, hval]

/-- Settles O8. -/
theorem conversionReplacesRawCode : Obligations.ConversionReplacesRawCode := by
  intro i raw s running
  refine ⟨s.convert i raw, congrArg _ (State.whileRunning_of_running running _), ?_, fun j hj => ?_, rfl⟩
  · rw [State.convert_input, if_pos rfl]
  · rw [State.convert_input, if_neg hj]

/-! ### The mode in force and a raise -/

/-- Settles O36. -/
theorem modeInForceByStateAndRow : Obligations.ModeInForceByStateAndRow := by
  intro s
  refine ⟨fun h => if_neg h, fun life age d hactive hrow => ?_⟩
  rw [State.modeInForce, if_pos hactive, hrow]

/-- What a raise makes of the list of a working station (R171). -/
theorem State.raise_outbound {s : State} (h : s.control.station.working = true) (code : EventCode) (detail : Int) :
    (s.raise code detail).outbound = s.told s.marker.count code s.outbound (BitVec.ofInt 16 detail) := by
  unfold State.raise State.told
  dsimp only
  split
  · rw [State.offer_frame, if_pos h]
  · rfl

/-- Settles O38: the flags gain the code's bit and the list the notice of R171. -/
theorem raiseLatchesAndOffers : Obligations.RaiseLatchesAndOffers := by
  intro s code detail hworking
  refine ⟨s.raise code detail, rfl, ?_, fun c => ?_, State.raise_outbound hworking code detail⟩
  · rw [State.raise_flags]
    exact State.raise_frame s code detail
  · rw [State.raise_flags, inSet_or, inSet_bit, Bool.or_eq_true, decide_eq_true_iff]

end Sys2Proof.Machine

/-! ## The line interface

The attempts, their outcomes, and receiving (R6 to R9, R16 to R19), and the settlements of O9, O11 to O13 and O15 to
O19. -/

namespace Sys2Proof.Machine

/-! ### The offered MARK -/

theorem Content.kind_pos_of_key_ne {c : Content} (h : c.key ≠ .mark) : 0 < c.kind := by
  cases c with
  | mark => exact absurd rfl h
  | notice urgent => cases urgent <;> exact Nat.succ_pos _
  | countHalt | report | countAnswer => exact Nat.succ_pos _

/-- A MARK goes before every entry of another kind (R12). -/
theorem insertEntry_mark {n : Half} {stamp attempts : Nat} {l : List Entry} (h : ∀ e ∈ l, e.content.key ≠ .mark) :
    insertEntry ⟨.mark n, stamp, attempts⟩ l = ⟨.mark n, stamp, attempts⟩ :: l := by
  cases l with
  | nil => rfl
  | cons x xs =>
    have hbefore : Entry.before ⟨.mark n, stamp, attempts⟩ x = true := by
      have hkind : (Content.mark n).kind < x.content.kind := Content.kind_pos_of_key_ne (h x List.mem_cons_self)
      simp [Entry.before, hkind]
    rw [insertEntry, if_pos hbefore]

theorem exec_periodTimerExpiry_of_working {s : State} (running : s.inReset = false)
    (hworking : s.control.station.working = true) (htimer : s.marker.periodTimer.isSome = true) :
    exec .periodTimerExpiry s = .next { s with
      marker := { s.marker with periodTimer := some (1000 * parN s.control.params 1 + 200 * s.number.toNat) }
      outbound := s.outbound.offer (.mark (s.marker.count + 1)) } := by
  have hoffer := State.offer_frame s (.mark (s.marker.count + 1))
  rw [if_pos hworking] at hoffer
  refine congrArg _ ((State.whileRunning_of_running running _).trans ((if_pos htimer).trans ?_))
  rw [State.timerExpired, hoffer]
  rfl

/-- Settles O9: the offer creates the MARK before all else, or renews the pending one at the head. -/
theorem periodTimerExpiryOffersMark : Obligations.PeriodTimerExpiryOffersMark := by
  intro s running hworking htimer marker
  refine ⟨fun hnew => ?_, fun n stamp attempts rest hentries hrest => ?_⟩ <;>
    rw [exec_periodTimerExpiry_of_working running hworking htimer]
  · rcases s.outbound.offer_cases (.mark (s.marker.count + 1)) with ⟨-, he⟩ | ⟨⟨e, hmem, hkey⟩, -⟩
    · rw [he, insertEntry_mark hnew]
    · exact absurd hkey (hnew e hmem)
  · rw [Outbound.offer_of_pending (c := .mark (s.marker.count + 1)) (l := []) hentries rfl hrest]
    rfl

/-! ### Attempts -/

/-- Settles O11. -/
theorem attemptStartTakesHead : Obligations.AttemptStartTakesHead := by
  intro s e rest running hslot hreceiver hstation hentries
  have hsends : s.control.station.sends = true := by
    rcases hstation with hworking | hclash
    · simp [StationState.sends, hworking]
    · simp [StationState.sends, hclash]
  have hbyte : s.marker.count.extractLsb' 0 8 = s.marker.count.setWidth 8 := by ext i hi; simp
  refine congrArg _ ((State.whileRunning_of_running running _).trans ((if_pos ⟨hslot, hreceiver, hsends⟩).trans ?_))
  simp only [State.loadSlot, hentries, hbyte]

theorem exec_attemptOutbid_of_slot {s : State} {slot : Slot} (running : s.inReset = false)
    (hslot : s.line.slot = some slot) :
    exec .attemptOutbid s = .next { s with
      line := { s.line with slot := none, receiver := .inTelegram }, outbound := s.outbound.giveBack slot.entry } := by
  refine congrArg _ ((State.whileRunning_of_running running _).trans ?_)
  rw [State.outbid, hslot]
  rfl

/-- Of one key there is one pending entry (R10). -/
theorem ListInv.eq_of_key_eq {s : State} (h : ListInv s) {a b : Entry} (ha : a ∈ s.outbound.entries)
    (hb : b ∈ s.outbound.entries) (hkey : a.content.key = b.content.key) : a = b :=
  List.inj_on_of_nodup_map h.oneForKey ha hb hkey

/-- Settles O12: a return keeps the invariant, which orders the list, and its two ways are those of `giveBack`. -/
theorem attemptOutbidReturnsEntry : Obligations.AttemptOutbidReturnsEntry := by
  unfold Obligations.AttemptOutbidReturnsEntry
  intro merged s slot h running hslot
  have hexec := exec_attemptOutbid_of_slot running hslot
  have hcoalesce (a b : Content) : merged a b = a.coalesce b := by
    have hmin (m n : Nat) : (if 255 < m + n then 255 else m + n) = min 255 (m + n) := by split <;> omega
    cases a <;> cases b <;> simp only [merged, Content.coalesce, hmin]
  have hout : s.outbound.giveBack slot.entry =
      { s.outbound with entries := (s.outbound.giveBack slot.entry).entries } := by
    unfold Outbound.giveBack
    split <;> rfl
  refine ⟨(s.outbound.giveBack slot.entry).entries, hexec.trans (congrArg (fun o => (.next { s with
    line := { s.line with slot := none, receiver := .inTelegram }, outbound := o } : Result)) hout), ?_, fun hnew => ?_,
    fun p hp hkey => ?_⟩
  · exact ((exec_effect hexec).listInv h).ordered
  · rcases s.outbound.giveBack_cases slot.entry with ⟨-, he⟩ | ⟨p, hp, hkey, -⟩
    · rw [he]
      exact insertEntry_perm _ _
    · exact absurd hkey (hnew p hp)
  · rcases s.outbound.giveBack_cases slot.entry with ⟨hnew, -⟩ | ⟨q, hq, hkey', he⟩
    · exact absurd hkey (hnew p hp)
    · obtain rfl : p = q := h.eq_of_key_eq hp hq (hkey.trans hkey'.symm)
      rw [he, hcoalesce, hkey]
      exact insertEntry_perm _ _

section Outcomes

variable {s : State} {slot : Slot} (running : s.inReset = false) (hslot : s.line.slot = some slot)
  (hkey : slot.entry.content.key ≠ .mark)

include running hslot hkey

theorem exec_attemptFailed_of_not_mark :
    exec .attemptFailed s = .next ((s.emptySlot .between).failEntry slot.entry) := by
  refine congrArg _ ((State.whileRunning_of_running running _).trans ?_)
  simp only [State.failed, hslot]
  split
  · next hcontent => exact absurd (congrArg Content.key hcontent) hkey
  all_goals rfl

/-- Settles O13 for one state: the attempt count decides, and at the third failure the kind. -/
theorem exec_attemptFailed_by_attempts :
    let line := { s.line with slot := none, receiver := .between }
    (slot.entry.attempts < 2 →
      exec .attemptFailed s = .next { s with
        line := line, outbound := s.outbound.giveBack { slot.entry with attempts := slot.entry.attempts + 1 } }) ∧
    (2 ≤ slot.entry.attempts → slot.entry.content.key ≠ .countHalt →
      exec .attemptFailed s = .next { s with line := line }) ∧
    (2 ≤ slot.entry.attempts → slot.entry.content.key = .countHalt →
      exec .attemptFailed s = .next ({ s with line := line } : State).freezeOwn) := by
  rw [exec_attemptFailed_of_not_mark running hslot hkey]
  unfold State.failEntry
  refine ⟨fun hfew => ?_, fun hthird hother => ?_, fun hthird hhalt => ?_⟩
  · rw [if_neg (by omega)]
    rfl
  · rw [if_pos (by omega)]
    split
    · next hcontent => exact absurd (congrArg Content.key hcontent) hother
    all_goals rfl
  · rw [if_pos (by omega)]
    split
    · rfl
    all_goals
      next hcontent => exact absurd (hhalt.symm.trans (congrArg Content.key hcontent)) nofun

theorem exec_attemptSent_by_kind :
    let line := { s.line with slot := none, receiver := .between }
    (slot.entry.content.key ≠ .countHalt → exec .attemptSent s = .next { s with line := line }) ∧
    (slot.entry.content.key = .countHalt → exec .attemptSent s = .next ({ s with line := line } : State).freezeOwn) := by
  have hexec : exec .attemptSent s = .next s.sent := congrArg _ (State.whileRunning_of_running running _)
  rw [hexec]
  simp only [State.sent, hslot]
  refine ⟨fun hother => ?_, fun hhalt => ?_⟩
  · split
    · next hcontent => exact absurd (congrArg Content.key hcontent) hkey
    · next hcontent => exact absurd (congrArg Content.key hcontent) hother
    all_goals rfl
  · split
    · next hcontent => exact absurd (congrArg Content.key hcontent) hkey
    · rfl
    all_goals
      next hcontent => exact absurd (hhalt.symm.trans (congrArg Content.key hcontent)) nofun

end Outcomes

/-- Settles O13. -/
theorem attemptFailedCountsFailures : Obligations.AttemptFailedCountsFailures := by
  intro s slot running hslot hkey
  exact exec_attemptFailed_by_attempts running hslot hkey

/-- Settles O15. -/
theorem sentEntryLeavesSlot : Obligations.SentEntryLeavesSlot := by
  intro s slot running hslot hkey
  exact exec_attemptSent_by_kind running hslot hkey

/-! ### Receiving -/

theorem State.receives_of {s : State} (running : s.inReset = false) (hstarting : s.control.station ≠ .starting)
    (hslot : s.line.slot = none) : s.receives = true := s.receives_iff.mpr ⟨running, hstarting, hslot⟩

theorem State.receive_of_not_receives {s : State} (h : s.receives = false) (source : Nibble) (delivered : Bool)
    (act : State → State) : s.receive source delivered act = s := by
  simp [State.receive, h]

/-- One of the own number acts as CLASH_ENTRY, whatever block it names (R19). -/
theorem State.receive_of_clash {s : State} {source : Nibble} (hwatches : s.control.station.watches = true)
    (hown : source = s.number) (delivered : Bool) (act : State → State) :
    exec .clashEntry s = .next (s.receive source delivered act) := by
  cases hr : s.receives <;> simp [exec, execClashEntry, State.receive, hr, hwatches, hown]

/-- One that is not delivered acts as TELEGRAM_HEARD (R17). -/
theorem State.receive_of_not_delivered (s : State) (source : Nibble) (act : State → State) :
    exec (.telegramHeard source) s = .next (s.receive source false act) := by
  simp [exec, execTelegramHeard, State.receive]

theorem exec_malformed_of_receives {s : State} (h : s.receives = true) :
    exec .malformedTelegram s = .next s.endTelegram := congrArg _ (if_pos h)

/-- Settles O16: the station receives; hearing is of another number, or in STRAP FAULT of the strap number. -/
theorem telegramsWithoutBlock : Obligations.TelegramsWithoutBlock := by
  intro s running hstarting hslot
  have hreceives := State.receives_of running hstarting hslot
  have hheard (source : Nibble) (hclash : ¬ (s.control.station.watches = true ∧ source = s.number)) :
      exec (.telegramHeard source) s = .next (s.endTelegram.heardFrom source) := by
    simp only [exec, execTelegramHeard, State.receive, hreceives, if_neg hclash]
    rfl
  refine ⟨congrArg _ (if_pos hreceives), exec_malformed_of_receives hreceives, fun source hother => ?_, fun hstation => ?_⟩
  · rw [hheard source fun h => hother h.2, s.heardFrom_other hother]
  · rw [hheard s.number fun h => absurd (hstation ▸ h.1) nofun]
    exact congrArg _ (if_pos rfl)

/-! ### Clash -/

theorem exec_clashEntry_of_receives {s : State} (h : s.receives = true) :
    exec .clashEntry s = .next s.endTelegram.ownNumberHeard := congrArg _ (if_pos h)

/-- R19: the notice counted up is the pending one. -/
theorem State.clashAgain_of_pending {s : State} {urgent : Bool} {repeats stamp attempts : Nat} {detail first : Half}
    (h : s.outbound.entries = [⟨.notice urgent .stationClash repeats detail first, stamp, attempts⟩]) :
    s.clashAgain = { s with
      flags := s.flags ||| 0x1000#16
      outbound := { s.outbound with
        entries := [⟨.notice urgent .stationClash (min 255 (repeats + 1)) (s.number.setWidth 16) first, stamp,
          attempts⟩] } } := by
  have hoffer : s.outbound.offer s.clashNotice = _ := Outbound.offer_of_pending (l := []) (r := []) h rfl (by simp)
  simp only [State.clashAgain, h, hoffer]
  rfl

/-- Settles O17: entry, a later telegram with the list empty or the notice pending, and STRAP FAULT. -/
theorem clashEntryEmptiesList : Obligations.ClashEntryEmptiesList := by
  refine ⟨fun s running hworking hslot => ?entry, fun s running hstation hslot => ?again, fun s running hstation hslot => ?strap⟩
  case entry =>
    rw [exec_clashEntry_of_receives (s.receives_of_working running hslot hworking)]
    refine congrArg _ ((if_pos hworking).trans ?_)
    unfold State.enterClash
    by_cases hrole : s.role = some .wheel
    · have hrole' : s.endTelegram.role = some .wheel := hrole
      simp only [if_pos hrole, if_pos hrole']
      rfl
    · have hrole' : ¬ s.endTelegram.role = some .wheel := hrole
      simp only [if_neg hrole, if_neg hrole']
      rfl
  case again =>
    have hreceives : s.receives = true := State.receives_of running (hstation.trans_ne nofun) hslot
    have hworking : ¬ s.endTelegram.control.station.working = true := by simp [hstation, StationState.working]
    have hagain : exec .clashEntry s = .next s.endTelegram.clashAgain :=
      (exec_clashEntry_of_receives hreceives).trans (congrArg _ ((if_neg hworking).trans (if_pos hstation)))
    refine ⟨fun hempty => ?_, fun urgent repeats detail first stamp attempts hentries => ?_⟩
    · rw [hagain]
      have hempty : s.endTelegram.outbound.entries = [] := hempty
      simp only [State.clashAgain, hempty]
      rfl
    · rw [hagain, State.clashAgain_of_pending (s := s.endTelegram) hentries]
      rfl
  case strap =>
    have hreceives : s.receives = true := State.receives_of running (hstation.trans_ne nofun) hslot
    rw [exec_clashEntry_of_receives hreceives]
    unfold State.ownNumberHeard
    simp [hstation, StationState.working, State.endTelegram]

/-! ### The row of a telegram -/

theorem exec_report_of_wellFormed {r : Report} (h : r.wellFormed = true) (source target : Nibble) (s : State) :
    exec (.report source target r) s =
      .next (s.receive source (s.deliversStation source target) fun t => t.takeReport source.toNat r) :=
  congrArg _ (if_pos h)

theorem exec_report_of_malformed {r : Report} (h : r.wellFormed = false) (source target : Nibble) (s : State) :
    exec (.report source target r) s = .next s.discard := congrArg _ (if_neg (by simp [h]))

/-- The part that most arms of `State.asRow` share. -/
def State.rowOf (s : State) (i : Instr) (source : Nibble) (delivered : Bool) : Instr :=
  if s.control.station.watches = true ∧ source = s.number then .clashEntry
  else if delivered = true then i else .telegramHeard source

theorem State.exec_rowOf {s : State} {c : Instr} {source : Nibble} {delivered : Bool} {act : State → State}
    (h : exec c s = .next (s.receive source delivered act)) : exec (s.rowOf c source delivered) s = exec c s := by
  unfold State.rowOf
  split
  · next hclash => rw [h, State.receive_of_clash hclash.1 hclash.2]
  · split
    · rfl
    · next hdelivered =>
      rw [Bool.not_eq_true] at hdelivered
      rw [h, hdelivered, State.receive_of_not_delivered s source act]

theorem State.asRow_report (s : State) (source target : Nibble) (r : Report) :
    s.asRow (.report source target r) = if r.wellFormed = true then
      s.rowOf (.report source target r) source (s.deliversStation source target) else .malformedTelegram := rfl

theorem exec_asRow (c : Instr) (s : State) : exec (s.asRow c) s = exec c s := by
  cases c with
  | report source target content =>
    rw [State.asRow_report]
    cases hform : content.wellFormed with
    | true => exact State.exec_rowOf (exec_report_of_wellFormed hform source target s)
    | false => exact (exec_report_of_malformed hform source target s).symm
  | telegramHeard source =>
    unfold State.asRow
    dsimp only
    split
    · next hclash => exact State.receive_of_clash hclash.1 hclash.2 false id
    · rfl
  | mark source target period => exact State.exec_rowOf (c := .mark source target period) rfl
  | countHalt source target index => exact State.exec_rowOf (c := .countHalt source target index) rfl
  | countThaw source target => exact State.exec_rowOf (c := .countThaw source target) rfl
  | demand source target fields => exact State.exec_rowOf (c := .demand source target fields) rfl
  | flagClear source target codes => exact State.exec_rowOf (c := .flagClear source target codes) rfl
  | countLoad source target index value => exact State.exec_rowOf (c := .countLoad source target index value) rfl
  | countQuery source target index => exact State.exec_rowOf (c := .countQuery source target index) rfl
  | setup source target param value => exact State.exec_rowOf (c := .setup source target param value) rfl
  | setupClose source target => exact State.exec_rowOf (c := .setupClose source target) rfl
  | restart source target straps => exact State.exec_rowOf (c := .restart source target straps) rfl
  | powerOnReset | resetRelease | filterSample | analogConversion | periodTimerExpiry | attemptStart | attemptOutbid
  | attemptFailed | attemptSent | badTelegram | malformedTelegram | clashEntry | computePoint => rfl

/-- A telegram command is received, or is a malformed REPORT and discarded. -/
theorem exec_of_onLine {c : Instr} {kind source target : Nibble} {payload : List Byte}
    (h : onLine c = some (kind, source, target, payload)) (s : State) :
    (∃ delivered act, exec c s = .next (s.receive source delivered act)) ∨
      (c.wellFormed = false ∧ exec c s = .next s.discard) := by
  cases c with
  | report src tgt r =>
    obtain ⟨-, rfl, -, -⟩ : _ ∧ src = source ∧ _ ∧ _ := by simpa [onLine] using h
    cases hform : r.wellFormed with
    | true => exact .inl ⟨_, _, exec_report_of_wellFormed hform src tgt s⟩
    | false => exact .inr ⟨by simp [Instr.wellFormed, hform], exec_report_of_malformed hform src tgt s⟩
  | mark src | countHalt src | countThaw src | demand src | flagClear src | countLoad src | countQuery src | setup src
  | setupClose src | restart src =>
    obtain ⟨-, rfl, -, -⟩ : _ ∧ src = source ∧ _ ∧ _ := by simpa [onLine] using h
    exact .inl ⟨_, _, rfl⟩
  | powerOnReset | resetRelease | filterSample | analogConversion | periodTimerExpiry | attemptStart | attemptOutbid
  | attemptFailed | attemptSent | badTelegram | malformedTelegram | telegramHeard | clashEntry | computePoint =>
    exact absurd h nofun

/-! ### Delivery -/

theorem StationState.working_iff (st : StationState) :
    st.working = true ↔ st = .setup ∨ st = .configFault ∨ st = .ready ∨ st = .active := by cases st <;> decide

theorem StationState.configures_iff (st : StationState) : st.configures = true ↔ st = .setup ∨ st = .configFault := by
  cases st <;> decide

theorem StationState.watches_iff (st : StationState) : st.watches = true ↔ st.working = true ∨ st = .clash := by
  cases st <;> decide

section Delivery

variable (s : State) (source target : Nibble)

theorem State.targeted_iff : s.targeted target = true ↔ target = s.number ∨ target = 15 := by simp [State.targeted]

theorem State.deliversStation_iff : s.deliversStation source target = true ↔
    (source ≠ 0 ∧ source ≠ 15) ∧ (target = s.number ∨ target = 15) ∧ s.control.station.working = true := by
  simp [State.deliversStation, State.targeted_iff, fromStation, and_assoc]

theorem State.deliversCabin_iff : s.deliversCabin source target = true ↔
    source = 0 ∧ (target = s.number ∨ target = 15) ∧ s.control.station.working = true := by
  simp [State.deliversCabin, State.targeted_iff, fromCabin, and_assoc]

theorem State.deliversSetup_iff : s.deliversSetup source target = true ↔
    source = 0 ∧ (target = s.number ∨ target = 15) ∧ s.control.station.configures = true := by
  simp [State.deliversSetup, State.targeted_iff, fromCabin, and_assoc]

theorem State.deliversRestart_iff : s.deliversRestart source target = true ↔
    source = 0 ∧ (target = s.number ∨ target = 15) ∧ s.control.station ≠ .starting ∧
      (s.control.station = .strapFault → target = 15) := by
  unfold State.deliversRestart
  cases hstation : s.control.station <;> simp [fromCabin, State.targeted_iff]
  tauto

end Delivery

theorem exec_heard_of_not_delivered {s : State} {c : Instr} {source : Nibble} {delivered : Bool} {act : State → State}
    (h : exec c s = .next (s.receive source delivered act)) (hd : ¬ delivered = true) :
    exec c s = exec (.telegramHeard source) s := by
  rw [Bool.not_eq_true] at hd
  rw [h, hd, State.receive_of_not_delivered s source act]

/-- Settles O18: the row is `State.asRow`; each delivery test fails on the grounds stated, and a telegram of the own number
is a clash in every state that watches. -/
theorem telegramActsAsItsRow : Obligations.TelegramActsAsItsRow := by
  refine ⟨exec_asRow, fun s source target => ?_⟩
  intro heard named works
  have hworks : s.control.station.working = true ↔ works := s.control.station.working_iff
  refine ⟨fun h => ?station, fun h => ?cabin, fun h => ?setup, fun h straps => ?restart, fun r hform => ?malformed,
    fun hwatches hown => ?own⟩
  case station =>
    have hnot : ¬ s.deliversStation source target = true := by
      rw [State.deliversStation_iff, hworks]
      tauto
    exact ⟨fun n => exec_heard_of_not_delivered rfl hnot, fun i => exec_heard_of_not_delivered rfl hnot,
      fun r hform => exec_heard_of_not_delivered (exec_report_of_wellFormed hform source target s) hnot⟩
  case cabin =>
    have hnot : ¬ s.deliversCabin source target = true := by
      rw [State.deliversCabin_iff, hworks]
      tauto
    exact ⟨exec_heard_of_not_delivered rfl hnot, fun f => exec_heard_of_not_delivered rfl hnot,
      fun codes => exec_heard_of_not_delivered rfl hnot, fun i v => exec_heard_of_not_delivered rfl hnot,
      fun i => exec_heard_of_not_delivered rfl hnot⟩
  case setup =>
    have hnot : ¬ s.deliversSetup source target = true := by
      rw [State.deliversSetup_iff, StationState.configures_iff]
      tauto
    exact ⟨fun p v => exec_heard_of_not_delivered rfl hnot, exec_heard_of_not_delivered rfl hnot⟩
  case restart =>
    have hnot : ¬ s.deliversRestart source target = true := by
      rw [State.deliversRestart_iff]
      tauto
    exact exec_heard_of_not_delivered rfl hnot
  case malformed => exact exec_report_of_malformed hform source target s
  case own =>
    have hwatches : s.control.station.watches = true := by
      rw [StationState.watches_iff, hworks]
      exact hwatches
    refine ⟨(State.receive_of_clash hwatches hown false id).symm, fun c kind payload hline hform => ?_⟩
    rcases exec_of_onLine hline s with ⟨delivered, act, he⟩ | ⟨hbad, -⟩
    · rw [he, State.receive_of_clash hwatches hown delivered act]
    · exact absurd (hform.symm.trans hbad) nofun

/-! ### No occasion -/

theorem State.tryStart_of_no_occasion {s : State}
    (h : s.outbound.entries = [] ∨ s.line.slot.isSome = true ∨ s.line.receiver = .inTelegram) : s.tryStart = s := by
  unfold State.tryStart
  split
  · next hstart =>
    obtain ⟨hslot, hreceiver, -⟩ := hstart
    rcases h with hempty | hfull | hreading
    · simp [State.loadSlot, hempty]
    · simp [hslot] at hfull
    · exact absurd (hreceiver.symm.trans hreading) nofun
  · rfl

/-- Settles O19: each command tests its occasion first. -/
theorem noOccasionNoEffect : Obligations.NoOccasionNoEffect := by
  intro s running
  have hnext (act : State → State) (h : act s = s) : Host.Outcome.next (s.whileRunning act) = (.next s : Result) :=
    congrArg _ ((State.whileRunning_of_running running act).trans h)
  refine ⟨fun cause straps => ?_, fun htimer => ?_, fun htimer => ?_, fun hstart => ?_, fun hslot => ⟨?_, ?_, ?_⟩,
    fun c kind source target payload hslot hline => ?_⟩
  · simp [exec, execResetRelease, running]
  · exact hnext _ (by simp [htimer])
  · exact hnext _ (by simp [htimer])
  · exact hnext _ (State.tryStart_of_no_occasion hstart)
  · exact hnext _ (by simp [State.outbid, hslot])
  · exact hnext _ (by simp [State.failed, hslot])
  · exact hnext _ (by simp [State.sent, hslot])
  · have hdeaf : s.receives = false := by
      cases hs : s.line.slot with
      | none => simp [hs] at hslot
      | some => simp [State.receives, hs]
    rcases exec_of_onLine hline s with ⟨delivered, act, he⟩ | ⟨-, he⟩
    · rw [he, State.receive_of_not_receives hdeaf]
    · rw [he, State.discard, hdeaf]
      rfl

end Sys2Proof.Machine

/-! ## One compute, stage by stage

A compute as one record update: what the front end and the role write, the raises in their order, and the counters
(R31, R62, R66, R67, R70, R113, R130, R151), and the settlement of O10. -/

namespace Sys2Proof.Machine

theorem StationState.computes_working {st : StationState} (h : st.computes = true) : st.working = true := by
  cases st <;> first | rfl | exact h

/-! ### A series of raises -/

/-- Flags after a series of raises (R169). -/
def latchAll (flags : Half) (l : List Raise) : Half := l.foldl (fun f r => f ||| r.1.bit) flags

/-- The list after a series of raises (R171). -/
def State.tellAll (s : State) (first : Half) (l : List Raise) (o : Outbound) : Outbound :=
  l.foldl (fun o r => s.told first r.1 o (BitVec.ofInt 16 r.2)) o

/-- The station after a series of raises in a working state. -/
def State.raised (s : State) (l : List Raise) : State :=
  { s with flags := latchAll s.flags l, outbound := s.tellAll s.marker.count l s.outbound }

theorem inSet_latchAll (flags : Half) (l : List Raise) (c : EventCode) :
    inSet (latchAll flags l) c = true ↔ inSet flags c = true ∨ ∃ detail, (c, detail) ∈ l := by
  induction l generalizing flags with
  | nil => simp [latchAll]
  | cons r l ih =>
    refine (ih (flags ||| r.1.bit)).trans ?_
    obtain ⟨code, d⟩ := r
    simp only [inSet_or, inSet_bit, Bool.or_eq_true, decide_eq_true_eq, List.mem_cons, Prod.mk.injEq, exists_or,
      exists_and_left, exists_eq, and_true, or_assoc]

theorem State.raised_append (s : State) (l m : List Raise) : (s.raised l).raised m = s.raised (l ++ m) := by
  simp only [State.raised, latchAll, State.tellAll, List.foldl_append]
  rfl

theorem State.raise_of_working {s : State} (h : s.control.station.working = true) (r : Raise) :
    s.raise r.1 r.2 = s.raised [r] := by
  rw [State.raise_frame, State.raise_outbound h]
  rfl

theorem State.raiseAll_of_working {s : State} (h : s.control.station.working = true) (l : List Raise) :
    s.raiseAll l = s.raised l := by
  induction l generalizing s with
  | nil => rfl
  | cons r l ih => rw [State.raiseAll_cons, State.raise_of_working h, ih (s := s.raised [r]) h, State.raised_append]; rfl

theorem State.offer_of_working {s : State} (h : s.control.station.working = true) (c : Content) :
    s.offer c = { s with outbound := s.outbound.offer c } := if_pos h

/-! ### The front end -/

/-- The raise of an input that enters FAULTED (R66). -/
def State.sensorRaise (s : State) (i : Fin 4) : List Raise :=
  if (s.treated i).status = .faulted ∧ (s.input i).status ≠ .faulted then [(.sensorFault, (i.val : Int))] else []

/-- The inputs after the treatment of those in `l` (R65). -/
def State.treatedInputs (s : State) (l : List (Fin 4)) : Vector Analog 4 :=
  Vector.ofFn fun i => if i ∈ l then s.treated i else s.input i

theorem State.treatInput_of_working {s : State} (h : s.control.station.working = true) (i : Fin 4) :
    s.treatInput i = ({ s with front := { s.front with
      analog := s.front.analog.set i.val (s.treated i) i.isLt } } : State).raised (s.sensorRaise i) := by
  unfold State.treatInput State.sensorRaise
  dsimp only
  split
  · exact State.raise_of_working (s := { s with front := { s.front with
      analog := s.front.analog.set i.val (s.treated i) i.isLt } }) h (.sensorFault, (i.val : Int))
  · rfl

theorem State.foldl_treatInput {s : State} (h : s.control.station.working = true) (l : List (Fin 4)) (hl : l.Nodup) :
    l.foldl State.treatInput s =
      ({ s with front := { s.front with analog := s.treatedInputs l } } : State).raised (l.flatMap s.sensorRaise) := by
  induction l generalizing s with
  | nil =>
    have hanalog : s.treatedInputs [] = s.front.analog := by
      ext i hi
      simp [State.treatedInputs, State.input]
    rw [hanalog]
    rfl
  | cons i l ih =>
    obtain ⟨hi, hl⟩ := List.nodup_cons.mp hl
    have hinput (j : Fin 4) (hj : j ≠ i) : (s.treatInput i).input j = s.input j := by
      have hval : i.val ≠ j.val := fun e => hj (Fin.ext e.symm)
      rw [State.treatInput_of_working h]
      simp [State.raised, State.input, hval]
    have hcontrol : (s.treatInput i).control = s.control := by simp
    have htreated (j : Fin 4) (hj : j ≠ i) : (s.treatInput i).treated j = s.treated j := by
      simp only [State.treated, State.param, State.role, hinput j hj, hcontrol]
    have hraises : l.flatMap (s.treatInput i).sensorRaise = l.flatMap s.sensorRaise := by
      refine List.flatMap_congr fun j hj => ?_
      have hne : j ≠ i := fun e => hi (e ▸ hj)
      simp only [State.sensorRaise, hinput j hne, htreated j hne]
    have hanalog : (s.treatInput i).treatedInputs l = s.treatedInputs (i :: l) := by
      ext j hj
      by_cases hne : (⟨j, hj⟩ : Fin 4) = i
      · subst hne
        rw [State.treatInput_of_working h]
        simp [State.treatedInputs, hi, State.raised, State.input]
      · simp [State.treatedInputs, hinput _ hne, htreated _ hne, hne]
    rw [List.foldl_cons, ih (by rwa [hcontrol]) hl, hraises, hanalog, State.treatInput_of_working h, List.flatMap_cons,
      ← State.raised_append]
    rfl

/-- The ENCODER FAULT condition and the pair speed that a compute forms in a WHEEL station, from speeds just formed
(R61, R62). -/
def FrontEnd.paired (f : FrontEnd) : FrontEnd :=
  let cond := encoderCondition f.pulse1.sum f.pulse2.sum f.encoderFault
  { f with encoderFault := cond, pairSpeed := pairSpeedOf cond f.pulse1.speed f.pulse2.speed }

/-- The speeds formed from the rings (R59). -/
def FrontEnd.speeds (t : ParamTable) (f : FrontEnd) : FrontEnd :=
  { f with
    pulse1 := { f.pulse1 with speed := ringSpeed t f.pulse1.ring }
    pulse2 := { f.pulse2 with speed := ringSpeed t f.pulse2.ring } }

/-- The station after the front end's work of a compute, its raises left out. -/
def State.fronted (s : State) : State :=
  { s with front := { (if s.role = some .wheel then (s.front.speeds s.control.params).paired
      else s.front.speeds s.control.params) with analog := s.treatedInputs (usedInputs s.role) } }

/-- The raises of the front end, in their order (logs 32, 33). -/
def State.frontRaises (s : State) : List Raise :=
  (if s.role = some .wheel then
    encoderRaise s.front.encoderFault (encoderCondition s.front.pulse1.sum s.front.pulse2.sum s.front.encoderFault)
  else []) ++ (usedInputs s.role).flatMap s.sensorRaise

theorem usedInputs_nodup (role : Option Role) : (usedInputs role).Nodup := by
  cases role with
  | none => decide
  | some role => cases role <;> decide

theorem State.frontCompute_of_working {s : State} (h : s.control.station.working = true) :
    s.frontCompute = s.fronted.raised s.frontRaises := by
  unfold State.frontCompute State.fronted State.frontRaises
  dsimp only
  by_cases hrole : s.role = some .wheel
  · simp only [if_pos hrole]
    have hpair : s.formSpeeds.formPair = ({ s with front := (s.front.speeds s.control.params).paired } : State).raised
        (encoderRaise s.front.encoderFault
          (encoderCondition s.front.pulse1.sum s.front.pulse2.sum s.front.encoderFault)) :=
      State.raiseAll_of_working (s := { s with front := (s.front.speeds s.control.params).paired }) h _
    rw [hpair, State.foldl_treatInput (by exact h) _ (usedInputs_nodup _), ← State.raised_append]
    rfl
  · simp only [if_neg hrole]
    rw [State.foldl_treatInput (by exact h) _ (usedInputs_nodup _)]
    rfl

/-! ### The role -/

/-- The station after the role computation, its raises left out (R31). -/
def State.roleStep (s : State) : State :=
  match s.role with
  | some .wheel =>
    { s with wheel := (wheelCompute s.wheelInput s.wheel).1, arb := (arbCompute s.arbInput s.arb).1 }.stage0
      (wheelCompute s.wheelInput s.wheel).1.drive
  | some .steer =>
    ({ s with steer := (steerCompute s.steerInput s.steer).1 }.stage0 (steerCompute s.steerInput s.steer).1.flapL).stage1
      (steerCompute s.steerInput s.steer).1.flapR
  | some .ret =>
    { s with ret := (returnCompute s.returnInput s.ret).1 }.stage0 (returnCompute s.returnInput s.ret).1.u
  | none => s

/-- The raises of the role computation, in their order (log 14). -/
def State.roleRaises (s : State) : List Raise :=
  match s.role with
  | some .wheel => (wheelCompute s.wheelInput s.wheel).2 ++ (arbCompute s.arbInput s.arb).2
  | some .steer => (steerCompute s.steerInput s.steer).2
  | some .ret => (returnCompute s.returnInput s.ret).2
  | none => []

/-- The role reads nothing that a raise writes. -/
theorem State.roleCompute_raised {s : State} (h : s.control.station.working = true) (l : List Raise) :
    (s.raised l).roleCompute = s.roleStep.raised (l ++ s.roleRaises) := by
  have hrole : (s.raised l).role = s.role := rfl
  unfold State.roleCompute State.roleStep State.roleRaises
  rw [hrole, ← State.raised_append]
  cases s.role with
  | none => rfl
  | some role =>
    cases role with
    | wheel => exact State.raiseAll_of_working (s := State.stage0 { s.raised l with
        wheel := (wheelCompute s.wheelInput s.wheel).1, arb := (arbCompute s.arbInput s.arb).1 }
        (wheelCompute s.wheelInput s.wheel).1.drive) h _
    | steer => exact State.raiseAll_of_working (s := (State.stage0 { s.raised l with
        steer := (steerCompute s.steerInput s.steer).1 } (steerCompute s.steerInput s.steer).1.flapL).stage1
        (steerCompute s.steerInput s.steer).1.flapR) h _
    | ret => exact State.raiseAll_of_working (s := State.stage0 { s.raised l with
        ret := (returnCompute s.returnInput s.ret).1 } (returnCompute s.returnInput s.ret).1.u) h _

/-! ### The duty counters -/

/-- Counter `i` after a compute while RUNNING (R151, R152). -/
def State.evaluated (s : State) (i : Fin 4) : Counter :=
  if s.counterSource i = 0 then s.duty.counters[i]
  else s.duty.counters[i].counted (s.counterCounts i) (s.counterCondition i)

/-- Counter `i` offers a COUNT HALT at this compute (R152). -/
def State.offersHalt (s : State) (i : Fin 4) : Bool := s.counterSource i != 0 && s.counterHalts i

/-- The station after the evaluation of the counters in `l`. -/
def State.evaluatedAll (s : State) (l : List (Fin 4)) : State :=
  { s with
    duty := { s.duty with counters := Vector.ofFn fun i => if i ∈ l then s.evaluated i else s.duty.counters[i] }
    outbound := (l.filter s.offersHalt).foldl (fun o i => o.offer (.countHalt (BitVec.ofNat 8 i.val))) s.outbound }

theorem Duty.update_other (d : Duty) {i j : Fin 4} (h : j ≠ i) (f : Counter → Counter) :
    (d.update i f).counters[j] = d.counters[j] := by
  have hval : i.val ≠ j.val := fun e => h (Fin.ext e.symm)
  simp [Duty.update, hval]

theorem State.evalCounter_of_working {s : State} (h : s.control.station.working = true) (i : Fin 4) :
    s.evalCounter i = { s with
      duty := s.duty.update i fun _ => s.evaluated i
      outbound := if s.offersHalt i then s.outbound.offer (.countHalt (BitVec.ofNat 8 i.val)) else s.outbound } := by
  unfold State.evalCounter State.evaluated State.offersHalt
  by_cases hsource : s.counterSource i = 0
  · simp [hsource, Duty.update]
  · simp only [if_neg hsource, Duty.update]
    cases hhalts : s.counterHalts i
    · simp
    · have hoffers : (s.counterSource i != 0 && true) = true := by simp [hsource]
      simp only [if_true, hoffers]
      exact if_pos h

/-- The counters read nothing that the evaluation of another writes. -/
theorem State.foldl_evalCounter {s : State} (h : s.control.station.working = true) (l : List (Fin 4)) (hl : l.Nodup) :
    l.foldl State.evalCounter s = s.evaluatedAll l := by
  induction l generalizing s with
  | nil =>
    have hcounters : (Vector.ofFn fun i : Fin 4 => if i ∈ ([] : List (Fin 4)) then s.evaluated i
        else s.duty.counters[i]) = s.duty.counters := by
      ext1 j hj
      simp
    simp only [State.evaluatedAll, hcounters]
    rfl
  | cons i l ih =>
    obtain ⟨hi, hl⟩ := List.nodup_cons.mp hl
    have hstep := State.evalCounter_of_working h i
    have hother (j : Fin 4) (hj : j ≠ i) : (s.evalCounter i).duty.counters[j] = s.duty.counters[j] := by
      rw [hstep]
      exact Duty.update_other _ hj _
    have hsame (j : Fin 4) (hj : j ≠ i) : (s.evalCounter i).evaluated j = s.evaluated j ∧
        (s.evalCounter i).offersHalt j = s.offersHalt j := by
      have hsource : (s.evalCounter i).counterSource j = s.counterSource j := by rw [hstep]; rfl
      have hcondition : (s.evalCounter i).counterCondition j = s.counterCondition j := by rw [hstep]; rfl
      have hoption (b : Nat) : (s.evalCounter i).counterOption j b = s.counterOption j b := by rw [hstep]; rfl
      simp only [State.evaluated, State.offersHalt, State.counterHalts, State.counterCounts, hsource, hcondition, hoption,
        hother j hj, and_self]
    have hcounters : (Vector.ofFn fun j => if j ∈ l then (s.evalCounter i).evaluated j
        else (s.evalCounter i).duty.counters[j]) =
        Vector.ofFn fun j => if j ∈ i :: l then s.evaluated j else s.duty.counters[j] := by
      congr 1
      funext j
      by_cases hne : j = i
      · subst hne
        rw [if_neg hi, if_pos List.mem_cons_self, hstep]
        exact Duty.update_counter _ _ _
      · simp only [List.mem_cons, hne, false_or, (hsame j hne).1, hother j hne]
    have hfilter : l.filter (s.evalCounter i).offersHalt = l.filter s.offersHalt :=
      List.filter_congr fun j hj => (hsame j fun e => hi (e ▸ hj)).2
    rw [List.foldl_cons, ih (by simpa using h) hl]
    unfold State.evaluatedAll
    rw [hcounters, hfilter, hstep]
    cases hhalts : s.offersHalt i <;> simp [hhalts, Duty.update]

theorem State.dutyCompute_of_working {s : State} (h : s.control.station.working = true) :
    s.dutyCompute = if s.duty.frozen = true then s else s.evaluatedAll [0, 1, 2, 3] := by
  unfold State.dutyCompute
  rw [State.foldl_evalCounter h _ (by decide)]

/-! ### The whole compute -/

/-- The station between front end and role, as the role reads it: the compute timer stopped, the sample period number
noted, the front end's work done. -/
def State.atRole (s : State) : State := s.stopCompute.noteSample.fronted

/-- The station after a compute but for the raises and the duty counters: the role moved, COMPUTE channels applied. -/
def State.moved (s : State) : State := s.atRole.roleStep.applyAtCompute

/-- The raises of a compute, in their order. -/
def State.computeRaises (s : State) : List Raise := s.stopCompute.noteSample.frontRaises ++ s.atRole.roleRaises

theorem State.roleStep_control (s : State) : s.roleStep.control = s.control := by
  unfold State.roleStep
  split <;> rfl

theorem State.moved_control (s : State) : s.moved.control = s.control :=
  (State.roleStep_control _).trans rfl

/-- A compute of a READY or ACTIVE station (R31). -/
theorem State.computePoint_of_computes {s : State} (h : s.control.station.computes = true) :
    s.computePoint = (s.moved.raised s.computeRaises).dutyCompute := by
  have hworking := StationState.computes_working h
  rw [State.computePoint, if_pos h, State.runCompute, State.frontCompute_of_working (by exact hworking),
    State.roleCompute_raised (by exact hworking)]
  rfl

theorem exec_computePoint_of_timer {s : State} (running : s.inReset = false)
    (htimer : s.marker.computeTimer.isSome = true) : exec .computePoint s = .next s.computePoint :=
  congrArg _ ((State.whileRunning_of_running running _).trans (if_pos htimer))

/-- What the counters add to the moved station and its raises. -/
theorem State.computePoint_frame {s : State} (h : s.control.station.computes = true) :
    ∃ counters halts, (s.duty.frozen = true → counters = s.duty.counters ∧ halts = []) ∧
      s.computePoint = { s.moved with
        flags := latchAll s.moved.flags s.computeRaises
        duty := { s.moved.duty with counters := counters }
        outbound := halts.foldl (fun o i => o.offer (.countHalt i))
          (s.moved.tellAll s.moved.marker.count s.computeRaises s.moved.outbound) } := by
  have hworking : (s.moved.raised s.computeRaises).control.station.working = true := by
    change s.moved.control.station.working = true
    rw [State.moved_control]
    exact StationState.computes_working h
  have hduty : s.moved.duty = s.duty := by
    unfold State.moved State.roleStep
    split <;> rfl
  rw [State.computePoint_of_computes h, State.dutyCompute_of_working hworking]
  have hfrozen : (s.moved.raised s.computeRaises).duty.frozen = s.duty.frozen := congrArg Duty.frozen hduty
  rw [hfrozen]
  split
  · next hf => exact ⟨s.moved.duty.counters, [], fun _ => ⟨by rw [hduty], rfl⟩, rfl⟩
  · next hf =>
    refine ⟨((s.moved.raised s.computeRaises).evaluatedAll [0, 1, 2, 3]).duty.counters, (([0, 1, 2, 3] : List (Fin 4)).filter (s.moved.raised s.computeRaises).offersHalt).map
      fun i => BitVec.ofNat 8 i.val, fun hf' => absurd hf' hf, ?_⟩
    rw [List.foldl_map]
    rfl

/-! ### What the roles read -/

section Reads

variable (s : State)

theorem State.roleStep_eq : s.roleStep = { s with
    wheel := s.roleStep.wheel, arb := s.roleStep.arb, steer := s.roleStep.steer, ret := s.roleStep.ret
    ch0 := s.roleStep.ch0, ch1 := s.roleStep.ch1 } := by
  unfold State.roleStep
  split <;> rfl

/-- Only a WHEEL station's role moves loop and arbitration, only a STEER station's the steering, only a RETURN station's
the return (R31). -/
theorem State.roleStep_others :
    (s.role ≠ some .wheel → s.roleStep.wheel = s.wheel ∧ s.roleStep.arb = s.arb) ∧
      (s.role ≠ some .steer → s.roleStep.steer = s.steer) ∧ (s.role ≠ some .ret → s.roleStep.ret = s.ret) := by
  unfold State.roleStep
  refine ⟨fun h => ?_, fun h => ?_, fun h => ?_⟩ <;> split <;> first | exact absurd ‹_› h | exact ⟨rfl, rfl⟩ | rfl

/-- A WHEEL station's role computation: the loop, arbitration, and the staged drive, held at 0 by STOP (R35, R70). -/
theorem State.roleStep_wheel (h : s.role = some .wheel) :
    s.roleStep.wheel = (wheelCompute s.wheelInput s.wheel).1 ∧ s.roleStep.arb = (arbCompute s.arbInput s.arb).1 ∧
      s.roleRaises = (wheelCompute s.wheelInput s.wheel).2 ++ (arbCompute s.arbInput s.arb).2 ∧
      s.roleStep.ch0 = ⟨if s.modeInForce = .stop then 0 else (wheelCompute s.wheelInput s.wheel).1.drive, s.ch0.applied⟩ ∧
      s.roleStep.ch1 = s.ch1 := by
  have hforces : s.stopForces = true := by simp [State.stopForces, h]
  unfold State.roleStep State.roleRaises
  rw [h]
  refine ⟨rfl, rfl, rfl, ?_, rfl⟩
  change (⟨if (s.stopForces && s.modeInForce == .stop) = true then 0 else _, s.ch0.applied⟩ : Channel) = _
  simp [hforces]

/-- A STEER station's role computation: the steering, and both staged flap demands (R113). -/
theorem State.roleStep_steer (h : s.role = some .steer) :
    s.roleStep.steer = (steerCompute s.steerInput s.steer).1 ∧ s.roleRaises = (steerCompute s.steerInput s.steer).2 ∧
      s.roleStep.ch0 = ⟨(steerCompute s.steerInput s.steer).1.flapL, s.ch0.applied⟩ ∧
      s.roleStep.ch1 = ⟨(steerCompute s.steerInput s.steer).1.flapR, s.ch1.applied⟩ := by
  have hforces : s.stopForces = false := by simp [State.stopForces, h]
  unfold State.roleStep State.roleRaises
  rw [h]
  refine ⟨rfl, rfl, ?_, rfl⟩
  change (⟨if (s.stopForces && s.modeInForce == .stop) = true then 0 else _, s.ch0.applied⟩ : Channel) = _
  simp [hforces]

/-- A RETURN station's role computation: the return, and the staged pump output, held at 0 by STOP (R35, R130). -/
theorem State.roleStep_ret (h : s.role = some .ret) :
    s.roleStep.ret = (returnCompute s.returnInput s.ret).1 ∧ s.roleRaises = (returnCompute s.returnInput s.ret).2 ∧
      s.roleStep.ch0 = ⟨if s.modeInForce = .stop then 0 else (returnCompute s.returnInput s.ret).1.u, s.ch0.applied⟩ ∧
      s.roleStep.ch1 = s.ch1 := by
  have hforces : s.stopForces = true := by simp [State.stopForces, h]
  unfold State.roleStep State.roleRaises
  rw [h]
  refine ⟨rfl, rfl, ?_, rfl⟩
  change (⟨if (s.stopForces && s.modeInForce == .stop) = true then 0 else _, s.ch0.applied⟩ : Channel) = _
  simp [hforces]

theorem State.roleStep_none (h : s.role = none) : s.roleStep = s ∧ s.roleRaises = [] := by
  unfold State.roleStep State.roleRaises
  rw [h]
  exact ⟨rfl, rfl⟩

end Reads

/-- `t` is a station after a compute of `s` (R31): what the whole compute leaves, by part. -/
structure State.ComputesTo (s t : State) : Prop where
  marker : t.marker = { s.marker with computeTimer := none, sample := some s.marker.count }
  frame : t.pending = s.pending ∧ t.hold = s.hold ∧ t.control = s.control ∧ t.line = s.line ∧ t.row0 = s.row0 ∧
    t.rows = s.rows
  front : t.front = s.atRole.front
  wheel : t.wheel = s.atRole.roleStep.wheel
  arb : t.arb = s.atRole.roleStep.arb
  steer : t.steer = s.atRole.roleStep.steer
  ret : t.ret = s.atRole.roleStep.ret
  ch0 : t.ch0 = if s.compute0 = true then s.atRole.roleStep.ch0.apply else s.atRole.roleStep.ch0
  ch1 : t.ch1 = if s.compute1 = true then s.atRole.roleStep.ch1.apply else s.atRole.roleStep.ch1
  flags : t.flags = latchAll s.flags s.computeRaises
  outbound : ∃ halts : List Byte, (s.duty.frozen = true → halts = []) ∧
    t.outbound = halts.foldl (fun o i => o.offer (.countHalt i)) (s.tellAll s.marker.count s.computeRaises s.outbound)
  duty : ∃ counters, (s.duty.frozen = true → counters = s.duty.counters) ∧ t.duty = { s.duty with counters := counters }


theorem State.moved_eq (s : State) : s.moved = { s.atRole with
    wheel := s.atRole.roleStep.wheel, arb := s.atRole.roleStep.arb, steer := s.atRole.roleStep.steer
    ret := s.atRole.roleStep.ret
    ch0 := if s.compute0 = true then s.atRole.roleStep.ch0.apply else s.atRole.roleStep.ch0
    ch1 := if s.compute1 = true then s.atRole.roleStep.ch1.apply else s.atRole.roleStep.ch1 } := by
  have hcompute : s.atRole.roleStep.compute0 = s.compute0 ∧ s.atRole.roleStep.compute1 = s.compute1 := by
    simp only [State.compute0, State.compute1, State.param, State.roleStep_control]
    exact ⟨rfl, rfl⟩
  unfold State.moved State.applyAtCompute
  rw [hcompute.1, hcompute.2]
  conv_lhs => rw [s.atRole.roleStep_eq]

theorem State.computesTo {s : State} (h : s.control.station.computes = true) : s.ComputesTo s.computePoint := by
  obtain ⟨counters, halts, hfrozen, he⟩ := s.computePoint_frame h
  rw [he, s.moved_eq]
  exact ⟨rfl, ⟨rfl, rfl, rfl, rfl, rfl, rfl⟩, rfl, rfl, rfl, rfl, rfl, rfl, rfl, rfl,
    ⟨halts, fun hf => (hfrozen hf).2, rfl⟩, ⟨counters, fun hf => (hfrozen hf).1, rfl⟩⟩

/-! ### A compute in the terms of the station it leaves -/

section Congr

variable {s t : State} (hcontrol : t.control = s.control) (hrow0 : t.row0 = s.row0)

include hcontrol hrow0 in
theorem State.modeInForce_congr : t.modeInForce = s.modeInForce := by
  simp only [State.modeInForce, hcontrol, hrow0]

theorem State.usableOf_congr (hrows : t.rows = s.rows) (role : Role) : t.usableOf role = s.usableOf role := by
  simp only [State.usableOf, State.usableRows, State.row, hrows]

include hrow0 in
theorem State.demandField_congr (f : DemandContent → Int) : t.demandField f = s.demandField f := by
  simp only [State.demandField, State.demandHeld, hrow0]

variable (hrows : t.rows = s.rows) (hfront : t.front = s.front) (hcount : t.marker.count = s.marker.count)

include hcontrol hrow0 hrows hfront hcount

theorem State.wheelInput_congr (heffect : t.arb.inEffect = s.arb.inEffect) : t.wheelInput = s.wheelInput := by
  simp only [State.wheelInput, State.returnRowState, State.modeInForce_congr hcontrol hrow0,
    State.usableOf_congr hrows, State.demandField_congr hrow0, State.demandHeld, State.input, hcontrol, hrow0, hfront,
    hcount, heffect]

omit hcount in
theorem State.arbInput_congr : t.arbInput = s.arbInput := by
  simp only [State.arbInput, State.modeInForce_congr hcontrol hrow0, State.usableOf_congr hrows,
    State.demandField_congr hrow0, State.number, State.input, hcontrol, hfront]

theorem State.steerInput_congr : t.steerInput =
    { s.steerInput with appliedL := t.ch0.applied, appliedR := t.ch1.applied } := by
  simp only [State.steerInput, State.steerPeer, State.modeInForce_congr hcontrol hrow0, State.usableOf_congr hrows,
    State.demandField_congr hrow0, State.input, hcontrol, hfront, hcount]

omit hrows hcount in
theorem State.returnInput_congr : t.returnInput = s.returnInput := by
  simp only [State.returnInput, State.modeInForce_congr hcontrol hrow0, State.demandField_congr hrow0, State.input,
    hcontrol, hfront]

end Congr

namespace State.ComputesTo

variable {s t : State} (h : s.ComputesTo t)

include h

theorem control : t.control = s.control := h.frame.2.2.1
theorem row0 : t.row0 = s.row0 := h.frame.2.2.2.2.1
theorem rows : t.rows = s.rows := h.frame.2.2.2.2.2
theorem count : t.marker.count = s.marker.count := by rw [h.marker]

theorem wheelInput (hrole : s.role = some .wheel) : t.wheelInput = s.atRole.wheelInput := by
  refine State.wheelInput_congr h.control h.row0 h.rows h.front h.count ?_
  rw [h.arb, (s.atRole.roleStep_wheel hrole).2.1]
  exact arbCompute_inEffect _ _

theorem arbInput : t.arbInput = s.atRole.arbInput := State.arbInput_congr h.control h.row0 h.rows h.front

theorem steerInput :
    { t.steerInput with appliedL := s.ch0.applied, appliedR := s.ch1.applied } = s.atRole.steerInput := by
  rw [State.steerInput_congr (s := s.atRole) h.control h.row0 h.rows h.front h.count]
  rfl

theorem returnInput : t.returnInput = s.atRole.returnInput := State.returnInput_congr h.control h.row0 h.front

theorem input (i : Fin 4) :
    t.input i = if i ∈ usedInputs s.role then s.treated i else s.input i := by
  have hanalog : t.front.analog = s.stopCompute.noteSample.treatedInputs (usedInputs s.role) := congrArg _ h.front
  rw [State.input, hanalog]
  simp only [State.treatedInputs, Fin.getElem_fin, Vector.getElem_ofFn]
  rfl

theorem encoderFault : t.front.encoderFault = if s.role = some .wheel then
    encoderCondition s.front.pulse1.sum s.front.pulse2.sum s.front.encoderFault else s.front.encoderFault := by
  have hrole : s.stopCompute.noteSample.role = s.role := rfl
  rw [h.front]
  unfold State.atRole State.fronted
  rw [hrole]
  split <;> rfl

/-- The raise of ENCODER FAULT is that of a condition that comes to hold for an input (R62). -/
theorem encoderRaises :
    (if t.front.encoderFault = s.front.encoderFault then []
      else match t.front.encoderFault with
        | some .first => [(EventCode.encoderFault, (1 : Int))]
        | some .second => [(.encoderFault, 2)]
        | none => []) =
      if s.role = some .wheel then
        encoderRaise s.front.encoderFault (encoderCondition s.front.pulse1.sum s.front.pulse2.sum s.front.encoderFault)
      else [] := by
  rw [h.encoderFault]
  split
  · generalize encoderCondition s.front.pulse1.sum s.front.pulse2.sum s.front.encoderFault = after
    generalize s.front.encoderFault = before
    revert before after
    unfold encoderRaise
    rintro (_ | _ | _) (_ | _ | _) <;> rfl
  · exact if_pos rfl

/-- The raises of SENSOR FAULT are those of the inputs that enter FAULTED, from A0 to A3 (R66). -/
theorem sensorRaises :
    ((List.finRange 4).filter fun i => (s.input i).status != .faulted && (t.input i).status == .faulted).map
        (fun i => (EventCode.sensorFault, (i.val : Int))) =
      (usedInputs s.role).flatMap s.sensorRaise := by
  have hone (i : Fin 4) : (if ((s.input i).status != .faulted && (t.input i).status == .faulted) = true then
      [(EventCode.sensorFault, (i.val : Int))] else []) = if i ∈ usedInputs s.role then s.sensorRaise i else [] := by
    rw [h.input i]
    unfold State.sensorRaise
    by_cases hused : i ∈ usedInputs s.role
    · simp [hused, and_comm]
    · simp [hused]
  have hfilter (l : List (Fin 4)) (p : Fin 4 → Bool) : (l.filter p).map (fun i => (EventCode.sensorFault, (i.val : Int)))
      = l.flatMap fun i => if p i = true then [(EventCode.sensorFault, (i.val : Int))] else [] := by
    induction l with
    | nil => rfl
    | cons i l ih => cases hp : p i <;> simp [hp, ih]
  rw [hfilter, List.flatMap_congr fun i _ => hone i]
  generalize s.sensorRaise = raise
  cases s.role with
  | none => rfl
  | some role => cases role <;> simp [usedInputs, List.finRange]

end State.ComputesTo

/-! ### The settlement -/

theorem State.compute0_iff (s : State) : s.compute0 = true ↔ s.param 6 = 1 ∨ s.param 6 = 3 := by simp [State.compute0]

theorem State.compute1_iff (s : State) : s.compute1 = true ↔ s.param 6 = 2 ∨ s.param 6 = 3 := by simp [State.compute1]

/-- A compute completes a channel: the staged value is the role's, the applied one follows where the channel applies at
COMPUTE (R34). -/
theorem Channel.completed (c : Channel) {p : Bool} {q : Prop} [Decidable q] (h : p = true ↔ q) :
    (if p = true then c.apply else c).staged = c.staged ∧
      (if p = true then c.apply else c).applied = if q then c.staged else c.applied := by
  by_cases hq : q
  · simp [h, hq, Channel.apply]
  · simp [h, hq]

theorem State.roleStep_staged (s : State) :
    (s.roleStep.ch0.staged = match s.role with
      | some .wheel => if s.modeInForce = .stop then 0 else s.roleStep.wheel.drive
      | some .steer => s.roleStep.steer.flapL
      | some .ret => if s.modeInForce = .stop then 0 else s.roleStep.ret.u
      | none => s.ch0.staged) ∧
    s.roleStep.ch1.staged = (if s.role = some .steer then s.roleStep.steer.flapR else s.ch1.staged) ∧
    s.roleStep.ch0.applied = s.ch0.applied ∧ s.roleStep.ch1.applied = s.ch1.applied := by
  cases hrole : s.role with
  | none => simp [(s.roleStep_none hrole).1]
  | some role =>
    cases role with
    | wheel =>
      obtain ⟨hwheel, -, -, hch0, hch1⟩ := s.roleStep_wheel hrole
      simp [hwheel, hch0, hch1]
    | steer =>
      obtain ⟨hsteer, -, hch0, hch1⟩ := s.roleStep_steer hrole
      simp [hsteer, hch0, hch1]
    | ret =>
      obtain ⟨hret, -, hch0, hch1⟩ := s.roleStep_ret hrole
      simp [hret, hch0, hch1]

theorem exec_computePoint_of_configures {s : State} (running : s.inReset = false)
    (hstation : s.control.station.configures = true) (htimer : s.marker.computeTimer.isSome = true) :
    exec .computePoint s = .next { s with marker := { s.marker with computeTimer := none } } := by
  have hidle : ¬ s.control.station.computes = true := by
    rcases s.control.station.configures_iff.mp hstation with h | h <;> simp [h, StationState.computes]
  rw [exec_computePoint_of_timer running htimer, State.computePoint, if_neg hidle]
  rfl

/-- Settles O10: a compute is the record `ComputesTo`, and each clause is one part of it, read in the terms of the
station that the compute leaves. -/
theorem computePointRunsRole : Obligations.ComputePointRunsRole := by
  refine ⟨fun s => exec_computePoint_of_configures, fun s running hstation htimer => ?_⟩
  have h := State.computesTo hstation
  obtain ⟨hstaged0, hstaged1, happlied0, happlied1⟩ := s.atRole.roleStep_staged
  obtain ⟨hnoWheel, hnoSteer, hnoRet⟩ := s.atRole.roleStep_others
  obtain ⟨hc0, ha0⟩ := Channel.completed s.atRole.roleStep.ch0 s.compute0_iff
  obtain ⟨hc1, ha1⟩ := Channel.completed s.atRole.roleStep.ch1 s.compute1_iff
  obtain ⟨halts, hhalts, hout⟩ := h.outbound
  obtain ⟨counters, hfrozen, hduty⟩ := h.duty
  refine ⟨s.computePoint, exec_computePoint_of_timer running htimer, h.marker, h.frame, ?_, ?_, ?_, ?_, ?_, ?_, ?_, ?_, ?_,
    ?_, ?events, ?_⟩
  case events =>
    intro encoder sensors raises
    have hraises : raises = s.computeRaises := by
      have hfront : encoder ++ sensors = s.stopCompute.noteSample.frontRaises :=
        congrArg₂ (· ++ ·) h.encoderRaises h.sensorRaises
      refine congrArg₂ (· ++ ·) hfront ?_
      cases hrole : s.role with
      | none => exact (s.atRole.roleStep_none hrole).2.symm
      | some role =>
        cases role with
        | wheel =>
          rw [h.wheelInput hrole, h.arbInput]
          exact (s.atRole.roleStep_wheel hrole).2.2.1.symm
        | steer =>
          rw [h.steerInput]
          exact (s.atRole.roleStep_steer hrole).2.1.symm
        | ret =>
          rw [h.returnInput]
          exact (s.atRole.roleStep_ret hrole).2.1.symm
    rw [hraises, h.flags]
    exact ⟨inSet_latchAll s.flags s.computeRaises, halts, hhalts, hout⟩
  · rw [h.wheel, h.arb]
    exact hnoWheel
  · rw [h.steer]
    exact hnoSteer
  · rw [h.ret]
    exact hnoRet
  · intro hrole
    obtain ⟨hwheel, harb, -⟩ := s.atRole.roleStep_wheel hrole
    rw [h.wheelInput hrole, h.arbInput, h.wheel, h.arb, hwheel, harb]
    exact ⟨rfl, rfl⟩
  · intro hrole
    rw [h.steerInput, h.steer, (s.atRole.roleStep_steer hrole).1]
    rfl
  · intro hrole
    rw [h.returnInput, h.ret, (s.atRole.roleStep_ret hrole).1]
    rfl
  · rw [h.ch0, hc0, hstaged0, h.wheel, h.steer, h.ret]
    rfl
  · rw [h.ch1, hc1, hstaged1, h.steer]
    rfl
  · rw [h.ch0, ha0, hc0, happlied0]
    rfl
  · rw [h.ch1, ha1, hc1, happlied1]
    rfl
  · rw [hduty]
    exact ⟨rfl, rfl, fun hf => by rw [hfrozen hf]⟩

end Sys2Proof.Machine

/-! ## The wheel loop

The integral step, the peer rows that the roles read, the target and the loop of the wheel role (R49, R71 to R88, R135),
and the settlements of O49, O50 and O51. -/

namespace Sys2Proof.Machine

/-! ### The integral step -/

/-- Settles O50: with the quotient and its remainder named, each of the four ways of a step is linear arithmetic. -/
theorem integralStepLosesNoFraction : Obligations.IntegralStepLosesNoFraction := by
  intro gain error slew u residue hslew hlo hhi t step r
  have hdiv : 256 * step + t.tmod 256 = t := Int.mul_tdiv_add_tmod t 256
  have hmod : -256 < t.tmod 256 ∧ t.tmod 256 < 256 :=
    ⟨Int.lt_tmod_of_pos t (by decide), Int.tmod_lt_of_pos t (by decide)⟩
  have hclamp : clamp (-slew) slew (divZero t 256) = max (-slew) (min slew step) := clamp_eq_max_min (by omega) _
  have hquot : divZero t 256 = step := rfl
  have hcases := integralStep_cases gain error slew u residue
  dsimp only at hcases
  rw [hclamp, hquot] at hcases
  simp only [within, Prod.ext_iff] at hcases ⊢
  change _ ∨ _ ∨ _ ∨ _ at hcases
  have hr : r = integralStep gain error slew u residue := rfl
  have ht : gain * error + residue = t := rfl
  rw [← hr, ht] at hcases
  clear_value t step r
  omega

/-! ### The rows that are usable -/

theorem usableContent_iff (r : Row PeerContent) (c : PeerContent) : usableContent r = some c ↔
    c.part ≠ .none ∧ (c.station = .ready ∨ c.station = .active) ∧ ∃ life age, r = .heard life age c ∧ life ≠ .lost := by
  cases r with
  | never => simp [usableContent]
  | heard life age d =>
    simp only [usableContent, Row.heard.injEq]
    constructor
    · intro h
      split at h
      · next hd =>
        obtain rfl : d = c := Option.some.inj h
        exact ⟨hd.2.1, hd.2.2, life, age, ⟨rfl, rfl, rfl⟩, hd.1⟩
      · exact absurd h nofun
    · rintro ⟨hpart, hstation, life', age', ⟨rfl, rfl, rfl⟩, hlife⟩
      exact if_pos ⟨hlife, hpart, hstation⟩

theorem State.mem_usableOf (s : State) (role : Role) (n : Nat) (c : PeerContent) : (n, c) ∈ s.usableOf role ↔
    1 ≤ n ∧ n ≤ 14 ∧ c.role = role ∧ c.part ≠ .none ∧ (c.station = .ready ∨ c.station = .active) ∧
      ∃ life age, s.row n = .heard life age c ∧ life ≠ .lost := by
  have hrow : (n, c) ∈ s.usableRows ↔ (1 ≤ n ∧ n ≤ 14) ∧ usableContent (s.row n) = some c := by
    simp only [State.usableRows, List.mem_filterMap, List.mem_range, Option.map_eq_some_iff, Prod.mk.injEq]
    constructor
    · rintro ⟨i, hi, d, hd, rfl, rfl⟩
      exact ⟨by omega, hd⟩
    · rintro ⟨hn, hc⟩
      have hpred : n - 1 + 1 = n := by omega
      exact ⟨n - 1, by omega, c, by rw [hpred]; exact hc, hpred, rfl⟩
  rw [State.usableOf, List.mem_filter, hrow, usableContent_iff, beq_iff_eq]
  tauto

/-- The usable rows stand in ascending station number (R49). -/
theorem State.usableOf_ascending (s : State) (role : Role) : (s.usableOf role).Pairwise fun p q => p.1 < q.1 := by
  refine List.Pairwise.filter _ (List.Pairwise.filterMap _ (fun i j hij p hp q hq => ?_) List.pairwise_lt_range)
  obtain ⟨c, -, rfl⟩ := Option.map_eq_some_iff.mp hp
  obtain ⟨d, -, rfl⟩ := Option.map_eq_some_iff.mp hq
  exact Nat.succ_lt_succ hij

/-- In a list of ascending numbers, the first entry of a kind is the one with the lowest number. -/
theorem find?_eq_some_iff_lowest {α : Type} {l : List (Nat × α)} (hl : l.Pairwise fun p q => p.1 < q.1)
    (f : Nat × α → Bool) (p : Nat × α) :
    l.find? f = some p ↔ p ∈ l ∧ f p = true ∧ ∀ q ∈ l, f q = true → p.1 ≤ q.1 := by
  induction l with
  | nil => simp
  | cons x xs ih =>
    obtain ⟨hx, hxs⟩ := List.pairwise_cons.mp hl
    rw [List.find?_cons]
    cases hf : f x with
    | true =>
      constructor
      · intro h
        obtain rfl : x = p := Option.some.inj h
        exact ⟨List.mem_cons_self, hf, List.forall_mem_cons.mpr ⟨fun _ => le_rfl, fun q hq _ => (hx q hq).le⟩⟩
      · rintro ⟨hmem, -, hlow⟩
        rcases List.mem_cons.mp hmem with rfl | hmem
        · rfl
        · exact absurd (hlow x List.mem_cons_self hf) (hx p hmem).not_ge
    | false =>
      rw [ih hxs, List.forall_mem_cons, List.mem_cons]
      constructor
      · rintro ⟨hmem, hp, hlow⟩
        exact ⟨.inr hmem, hp, fun h => absurd (hf.symm.trans h) nofun, hlow⟩
      · rintro ⟨hmem, hp, -, hlow⟩
        refine ⟨hmem.resolve_left ?_, hp, hlow⟩
        rintro rfl
        exact absurd (hf.symm.trans hp) nofun

/-- R71: the return state that the wheel role reads is that of the lowest usable RETURN row. -/
theorem State.returnRowState_of_lowest (s : State) {n : Nat} {c : PeerContent} {p : ReturnPart}
    (hmem : (n, c) ∈ s.usableOf .ret) (hlow : ∀ q ∈ s.usableOf .ret, n ≤ q.1) (hpart : c.part = .ret p) :
    s.returnRowState = some p.state := by
  have hhead : (s.usableOf .ret).head? = some (n, c) := by
    have hfind := (find?_eq_some_iff_lowest (s.usableOf_ascending .ret) (fun _ => true) (n, c)).mpr
      ⟨hmem, rfl, fun q hq _ => hlow q hq⟩
    rw [← hfind]
    cases s.usableOf .ret <;> rfl
  simp only [State.returnRowState, hhead, hpart]

/-! ### The three stages of a compute -/

/-- Stages 2 and 3 of a compute (R70): the loop state, u and the drive output, with the raises. -/
def loopMove (i : WheelInput) (w : Wheel) : Wheel × List Raise :=
  ((wheelOutput i (wheelTransition i w).1).1, (wheelTransition i w).2 ++ (wheelOutput i (wheelTransition i w).1).2)

theorem wheelCompute_eq (i : WheelInput) (w : Wheel) : wheelCompute i w = loopMove i (wheelTarget i w) := rfl

/-- What stage 1 decides: direction, ramped target, effective target and error. -/
def Wheel.aim (w : Wheel) : Direction × Int × Int × Int := (w.direction, w.ramped, w.target, w.error)

theorem wheelWindows_aim (i : WheelInput) (w : Wheel) : (wheelWindows i w).1.aim = w.aim := by
  unfold wheelWindows
  dsimp only
  split <;> (try split_ifs) <;> rfl

/-- The jam count of a compute (R84). -/
def jamNext (i : WheelInput) (w : Wheel) : Nat :=
  if i.pressureValid then (if par i.params 28 ≤ i.pressure ∧ i.pairSpeed ≤ par i.params 29 then w.jamCount + 1 else 0)
  else w.jamCount

/-- A jam is detected at this compute (R84). -/
abbrev Jams (i : WheelInput) (w : Wheel) : Prop :=
  i.pressureValid ∧ (par i.params 28 ≤ i.pressure ∧ i.pairSpeed ≤ par i.params 29) ∧ parN i.params 30 ≤ jamNext i w

theorem wheelDriving_eq (i : WheelInput) (w : Wheel) : wheelDriving i w =
    if Jams i w then wheelJammed i w
    else if 0 < w.ramped then wheelWindows i { w with jamCount := jamNext i w }
    else ({ w with jamCount := jamNext i w }, []) := rfl

theorem wheelJammed_aim (i : WheelInput) (w : Wheel) : (wheelJammed i w).1.aim = w.aim := by
  unfold wheelJammed
  dsimp only
  split <;> rfl

theorem wheelDriving_aim (i : WheelInput) (w : Wheel) : (wheelDriving i w).1.aim = w.aim := by
  rw [wheelDriving_eq]
  split
  · exact wheelJammed_aim i w
  · split
    · exact wheelWindows_aim _ _
    · rfl

theorem wheelTransition_aim (i : WheelInput) (w : Wheel) : (wheelTransition i w).1.aim = w.aim := by
  unfold wheelTransition
  dsimp only
  split
  · split <;> rfl
  · split
    · split <;> rfl
    · rfl
  · split <;> rfl
  · split <;> rfl
  all_goals exact wheelDriving_aim _ _

theorem wheelOutput_aim (i : WheelInput) (w : Wheel) : (wheelOutput i w).1.aim = w.aim := by
  unfold wheelOutput
  dsimp only
  split
  · split
    · rfl
    · unfold wheelWindDown
      dsimp only
      split <;> rfl
  · rfl

/-- Stages 2 and 3 leave what stage 1 decides (R70). -/
theorem loopMove_aim (i : WheelInput) (w : Wheel) : (loopMove i w).1.aim = w.aim :=
  (wheelOutput_aim i _).trans (wheelTransition_aim i w)

section Aim

variable (i : WheelInput) (w : Wheel)

theorem loopMove_direction : (loopMove i w).1.direction = w.direction := congrArg (·.1) (loopMove_aim i w)
theorem loopMove_ramped : (loopMove i w).1.ramped = w.ramped := congrArg (·.2.1) (loopMove_aim i w)
theorem loopMove_target : (loopMove i w).1.target = w.target := congrArg (·.2.2.1) (loopMove_aim i w)
theorem loopMove_error : (loopMove i w).1.error = w.error := congrArg (·.2.2.2) (loopMove_aim i w)

end Aim

/-! ### Stage 1 -/

/-- R71, R72: the effective base by mode and return state code. -/
theorem effectiveBase_eq (i : WheelInput) : effectiveBase i =
    (let underCut : Int := match i.returnState with
      | some c =>
        if c = 2 then i.baseSpeed else if c = 3 then (i.baseSpeed * par i.params 34).tdiv 100 else 0
      | none => 0
    match i.mode with
      | .cut => underCut
      | .lift => if 100 < underCut then 100 else underCut
      | .hold | .stop => 0) := by
  have hcut : cutBase i = match i.returnState with
      | some c => if c = 2 then i.baseSpeed else if c = 3 then (i.baseSpeed * par i.params 34).tdiv 100 else 0
      | none => 0 := by
    unfold cutBase
    cases i.returnState <;> rfl
  have hmin (v : Int) : min v 100 = if 100 < v then 100 else v := by split <;> omega
  unfold effectiveBase
  rw [hcut]
  cases i.mode with
  | cut | hold | stop => rfl
  | lift => exact hmin _

/-- R74: a move with a step of 0 or more, from below and from above. -/
theorem moveToward_eq {cur goal step : Int} (h : 0 ≤ step) :
    (cur ≤ goal → moveToward cur goal step = min goal (cur + step)) ∧
      (goal ≤ cur → moveToward cur goal step = max goal (cur - step)) := by
  unfold moveToward
  constructor <;> intro hle <;> split_ifs <;> omega

/-- R73: the direction and the base that stands. -/
theorem settleDirection_eq (i : WheelInput) (w : Wheel) : settleDirection i w =
    (let wanted := i.demanded.getD w.direction
    let switches := w.ramped = 0 ∧ w.loop = .off ∧ i.pairSpeed ≤ par i.params 29
    (if switches then wanted else w.direction, if wanted = w.direction ∨ switches then effectiveBase i else 0)) := by
  unfold settleDirection
  dsimp only
  by_cases hsame : i.demanded.getD w.direction = w.direction
  · simp [hsame]
  · by_cases hswitch : w.ramped = 0 ∧ w.loop = .off ∧ i.pairSpeed ≤ par i.params 29
    · simp [hsame, hswitch]
    · simp [hsame, hswitch]

/-- Settles O49: the wheel input reads the rows named; stages 2 and 3 leave the aim of stage 1, which is the direction, the
bounded move and the share. -/
theorem wheelTargetFollowsBase : Obligations.WheelTargetFollowsBase := by
  refine ⟨fun s => ?reads, fun i w hslew => ?aim, fun d => ?share⟩
  case reads =>
    refine ⟨⟨rfl, rfl, rfl, rfl, rfl, rfl, rfl⟩, Analog.valid_iff _, fun hrow => ?_, fun life age d hrow => ?_,
      fun hnone => ?_, fun n c p hmem hlow hpart => s.returnRowState_of_lowest hmem hlow hpart⟩
    · simp [State.wheelInput, State.demandHeld, hrow, Row.content?]
    · simp [State.wheelInput, State.demandField, State.demandHeld, hrow, Row.content?]
    · simp [State.wheelInput, State.returnRowState, hnone]
  case aim =>
    intro r underCut base wanted switches goal half share
    have hbase : effectiveBase i = base := effectiveBase_eq i
    have hsettle : settleDirection i w = (if switches then wanted else w.direction, goal) :=
      (settleDirection_eq i w).trans (congrArg (fun b => (if switches then wanted else w.direction,
        if wanted = w.direction ∨ switches then b else 0)) hbase)
    have hramped : r.ramped = moveToward w.ramped goal (par i.params 27) :=
      (loopMove_ramped i (wheelTarget i w)).trans
        (congrArg (fun d => moveToward w.ramped (Prod.snd d) (par i.params 27)) hsettle)
    obtain ⟨hup, hdown⟩ := moveToward_eq (cur := w.ramped) (goal := goal) hslew
    refine ⟨?_, fun h => hramped.trans (hup h), fun h => hramped.trans (hdown h), ?_, ?_⟩
    · exact (loopMove_direction i (wheelTarget i w)).trans (congrArg Prod.fst hsettle)
    · have hshare : shareOf i.side i.inEffect = share := by cases hside : i.side <;> simp [shareOf, share, half, hside, divZero]
      have htarget : r.target = (wheelTarget i w).target := loopMove_target i (wheelTarget i w)
      have hramped' : r.ramped = (wheelTarget i w).ramped := loopMove_ramped i (wheelTarget i w)
      rw [htarget, hramped', ← hshare, ← clamp_eq_max_min (by decide)]
      rfl
    · exact (loopMove_error i (wheelTarget i w)).trans
        (congrArg (· - i.pairSpeed) (loopMove_target i (wheelTarget i w)).symm)
  case share =>
    have hdiv : 2 * d.tdiv 2 + d.tmod 2 = d := Int.mul_tdiv_add_tmod d 2
    have hup (h : 0 ≤ d) : 0 ≤ d.tmod 2 := Int.tmod_nonneg 2 h
    have hdown (h : d ≤ 0) : d.tmod 2 ≤ 0 := by
      have hneg : 0 ≤ (-d).tmod 2 := Int.tmod_nonneg 2 (by omega)
      rw [Int.neg_tmod] at hneg
      omega
    have hlow : -2 < d.tmod 2 := Int.lt_tmod_of_pos d (by decide)
    have hhigh : d.tmod 2 < 2 := Int.tmod_lt_of_pos d (by decide)
    have hfloor : (d.tdiv 2).natAbs ≤ (-(d - d.tdiv 2)).natAbs := by
      rcases le_total 0 d with h | h
      · have hpos := hup h
        omega
      · have hneg := hdown h
        omega
    exact ⟨by simp only [shareOf, divZero]; omega, rfl, hfloor⟩

/-! ### Stages 2 and 3 by loop state -/

section Output

variable {i : WheelInput} {w : Wheel}

theorem wheelOutput_of_idle (h : w.loop.driving = false) :
    wheelOutput i w = ({ w with drive := driveOutput i w }, []) := by
  simp [wheelOutput, h]

/-- R81, R83: one integral step, and the drive of the u it leaves. -/
theorem wheelOutput_of_ramped (h : w.loop.driving = true) (hramped : 0 < w.ramped) :
    wheelOutput i w = ({ wheelStep i w with drive := driveOutput i (wheelStep i w) }, []) := by
  simp [wheelOutput, h, hramped]

theorem wheelOutput_of_wound (h : w.loop.driving = true) (hramped : w.ramped ≤ 0) :
    wheelOutput i w =
      ({ (wheelWindDown i w).1 with drive := driveOutput i (wheelWindDown i w).1 }, (wheelWindDown i w).2) := by
  simp [wheelOutput, h, not_lt.mpr hramped]

/-- The drive of a driving state is u, with the sign of the direction (R83). -/
theorem driveOutput_of_driving (h : w.loop.driving = true) :
    driveOutput i w = if w.direction = .forward then w.u else -w.u := by
  unfold driveOutput
  cases hloop : w.loop <;> first | rfl | (rw [hloop] at h; exact absurd h nofun)

end Output

/-- The loop as it starts from nothing, one integral step taken (R76, R81, R87). -/
structure AcquiresFromRest (i : WheelInput) (r : Wheel) : Prop where
  loop : r.loop = .acquire
  acquire : r.acquireCount = 0
  jam : r.jamCount = 0
  drive : r.drive = if r.direction = .forward then r.u else -r.u
  step : (r.u, r.residue) = integralStep (par i.params 20) r.error (par i.params 26) 0 0

theorem wheelStart_acquires (i : WheelInput) {w : Wheel} (h : 0 < w.ramped) :
    AcquiresFromRest i (wheelOutput i (wheelStart w)).1 ∧ (wheelOutput i (wheelStart w)).1.history = w.history ∧
      (wheelOutput i (wheelStart w)).2 = [] := by
  rw [wheelOutput_of_ramped (w := wheelStart w) rfl h]
  exact ⟨⟨rfl, rfl, rfl, driveOutput_of_driving (i := i) (w := wheelStep i (wheelStart w)) rfl, rfl⟩, rfl, rfl⟩

/-- A start at a ramped target of 0 winds down at once, without LOCK LOST. -/
theorem wheelStart_wound (i : WheelInput) {w : Wheel} (h : w.ramped ≤ 0) :
    (wheelOutput i (wheelStart w)).1.history = w.history ∧ (wheelOutput i (wheelStart w)).2 = [] := by
  rw [wheelOutput_of_wound (w := wheelStart w) rfl h]
  unfold wheelWindDown
  dsimp only
  split <;> exact ⟨rfl, rfl⟩

section Loop

variable {i : WheelInput} {w : Wheel}

/-- The drive with the sign of the direction (R83). -/
def Wheel.signed (w : Wheel) (v : Int) : Int := if w.direction = .forward then v else -v

theorem loopMove_of_off (h : w.loop = .off) :
    (loopMove i w).2 = [] ∧ (loopMove i w).1.history = (expireJams i w).history ∧
      (0 < w.target → 0 < w.ramped → AcquiresFromRest i (loopMove i w).1) ∧
      (w.target ≤ 0 → (loopMove i w).1.loop = .off ∧ (loopMove i w).1.drive = 0) := by
  have hloop : (expireJams i w).loop = .off := h
  have hmove : wheelTransition i w =
      if 0 < w.target then (wheelStart (expireJams i w), []) else (expireJams i w, []) := by
    simp only [wheelTransition, hloop]
    rfl
  unfold loopMove
  rw [hmove]
  by_cases htarget : 0 < w.target
  · rw [if_pos htarget]
    refine ⟨?_, ?_, fun _ hramped => (wheelStart_acquires i (w := expireJams i w) hramped).1,
      fun h => absurd htarget h.not_gt⟩ <;>
    rcases lt_or_ge 0 w.ramped with hramped | hramped
    · exact (wheelStart_acquires i (w := expireJams i w) hramped).2.2
    · exact (wheelStart_wound i (w := expireJams i w) hramped).2
    · exact (wheelStart_acquires i (w := expireJams i w) hramped).2.1
    · exact (wheelStart_wound i (w := expireJams i w) hramped).1
  · rw [if_neg htarget]
    have hout : wheelOutput i (expireJams i w) = _ := wheelOutput_of_idle (by rw [hloop]; rfl)
    have hdrive : driveOutput i (expireJams i w) = 0 := by simp [driveOutput, hloop]
    dsimp only
    rw [hout, hdrive]
    exact ⟨rfl, rfl, fun h => absurd h htarget, fun _ => ⟨hloop, rfl⟩⟩

theorem driveOutput_of_backoff (h : w.loop = .backoff) : driveOutput i w = w.signed (-(par i.params 31)) := by
  simp [driveOutput, Wheel.signed, h]

theorem loopMove_of_stalled (h : w.loop = .stalled) :
    (loopMove i w).2 = [] ∧ (loopMove i w).1.history = (expireJams i w).history ∧
      (w.stallCount = 5 → (loopMove i w).1.loop = .backoff ∧ (loopMove i w).1.backoffCount = 1 ∧
        (loopMove i w).1.drive = w.signed (-(par i.params 31))) ∧
      (w.stallCount ≠ 5 → (loopMove i w).1.loop = .stalled ∧ (loopMove i w).1.stallCount = w.stallCount + 1 ∧
        (loopMove i w).1.drive = 0) := by
  have hloop : (expireJams i w).loop = .stalled := h
  have hmove : wheelTransition i w =
      if w.stallCount = 5 then ({ expireJams i w with loop := .backoff, backoffCount := 1 }, [])
      else ({ expireJams i w with stallCount := w.stallCount + 1 }, []) := by
    simp only [wheelTransition, hloop]
    rfl
  unfold loopMove
  rw [hmove]
  by_cases hcount : w.stallCount = 5
  · rw [if_pos hcount]
    dsimp only
    rw [wheelOutput_of_idle rfl, driveOutput_of_backoff rfl]
    exact ⟨rfl, rfl, fun _ => ⟨rfl, rfl, rfl⟩, fun h => absurd hcount h⟩
  · have hdrive : driveOutput i { expireJams i w with stallCount := w.stallCount + 1 } = 0 := by
      simp [driveOutput, hloop]
    rw [if_neg hcount]
    dsimp only
    rw [wheelOutput_of_idle (by simp [hloop, LoopState.driving]), hdrive]
    exact ⟨rfl, rfl, fun h => absurd h hcount, fun _ => ⟨hloop, rfl, rfl⟩⟩

theorem loopMove_of_backoff (h : w.loop = .backoff) :
    (loopMove i w).2 = [] ∧ (loopMove i w).1.history = (expireJams i w).history ∧
      (w.backoffCount = parN i.params 32 → 0 < w.ramped → AcquiresFromRest i (loopMove i w).1) ∧
      (w.backoffCount = parN i.params 32 → w.ramped ≤ 0 → (loopMove i w).1.loop = .off ∧ (loopMove i w).1.drive = 0) ∧
      (w.backoffCount ≠ parN i.params 32 → (loopMove i w).1.loop = .backoff ∧
        (loopMove i w).1.backoffCount = w.backoffCount + 1 ∧
        (loopMove i w).1.drive = w.signed (-(par i.params 31))) := by
  have hloop : (expireJams i w).loop = .backoff := h
  have hmove : wheelTransition i w =
      if w.backoffCount = parN i.params 32 then
        (if 0 < w.ramped then (wheelStart (expireJams i w), []) else ({ expireJams i w with loop := .off }, []))
      else ({ expireJams i w with backoffCount := w.backoffCount + 1 }, []) := by
    simp only [wheelTransition, hloop]
    rfl
  unfold loopMove
  rw [hmove]
  by_cases hcount : w.backoffCount = parN i.params 32
  · rw [if_pos hcount]
    by_cases hramped : 0 < w.ramped
    · rw [if_pos hramped]
      obtain ⟨hacquires, hhistory, hraises⟩ := wheelStart_acquires i (w := expireJams i w) hramped
      exact ⟨hraises, hhistory, fun _ _ => hacquires, fun _ hle => absurd hramped hle.not_gt, fun h => absurd hcount h⟩
    · rw [if_neg hramped]
      dsimp only
      rw [wheelOutput_of_idle rfl]
      exact ⟨rfl, rfl, fun _ h => absurd h hramped, fun _ _ => ⟨rfl, rfl⟩, fun h => absurd hcount h⟩
  · have hdrive : driveOutput i { expireJams i w with backoffCount := w.backoffCount + 1 } =
        w.signed (-(par i.params 31)) := driveOutput_of_backoff hloop
    rw [if_neg hcount]
    dsimp only
    rw [wheelOutput_of_idle (by simp [hloop, LoopState.driving]), hdrive]
    exact ⟨rfl, rfl, fun h => absurd h hcount, fun h => absurd h hcount, fun _ => ⟨hloop, rfl, rfl⟩⟩

theorem loopMove_of_faulted (h : w.loop = .faulted) :
    (loopMove i w).2 = [] ∧ (loopMove i w).1.drive = 0 ∧
      (i.mode = .hold ∨ i.mode = .stop → (loopMove i w).1.loop = .off ∧ (loopMove i w).1.history = []) ∧
      (i.mode = .cut ∨ i.mode = .lift →
        (loopMove i w).1.loop = .faulted ∧ (loopMove i w).1.history = (expireJams i w).history) := by
  have hloop : (expireJams i w).loop = .faulted := h
  have hmove : wheelTransition i w =
      if i.mode = .hold ∨ i.mode = .stop then ({ expireJams i w with loop := .off, history := [] }, [])
      else (expireJams i w, []) := by
    simp only [wheelTransition, hloop]
  unfold loopMove
  rw [hmove]
  by_cases hmode : i.mode = .hold ∨ i.mode = .stop
  · rw [if_pos hmode]
    dsimp only
    rw [wheelOutput_of_idle rfl]
    refine ⟨rfl, rfl, fun _ => ⟨rfl, rfl⟩, fun h => ?_⟩
    rcases hmode with hm | hm <;> simp [hm] at h
  · have hdrive : driveOutput i (expireJams i w) = 0 := by simp [driveOutput, hloop]
    rw [if_neg hmode]
    dsimp only
    rw [wheelOutput_of_idle (by rw [hloop]; rfl), hdrive]
    exact ⟨rfl, rfl, fun h => absurd h hmode, fun _ => ⟨hloop, rfl⟩⟩

/-! ### The driving states -/

theorem wheelTransition_of_driving (h : w.loop.driving = true) :
    wheelTransition i w = wheelDriving i (expireJams i w) := by
  have hloop : (expireJams i w).loop = w.loop := rfl
  unfold wheelTransition
  cases hw : w.loop <;> simp only [hw, hloop] <;> (rw [hw] at h; exact absurd h nofun)

/-- R84 to R86, R88: a jam stops the loop, STALLED or at the third jam FAULTED. -/
theorem loopMove_of_jam (h : w.loop.driving = true) (hjam : Jams i w) :
    let r := (loopMove i w).1
    let kept := (expireJams i w).history
    r.history = kept ++ [i.now] ∧ r.u = 0 ∧ r.residue = 0 ∧ r.drive = 0 ∧ r.jamCount = 0 ∧
      (kept.length < 2 → r.loop = .stalled ∧ r.stallCount = 1 ∧
        (loopMove i w).2 = (if w.loop = .locked then [(EventCode.lockLost, 4)] else []) ++
          [(EventCode.wheelJam, i.pressure)]) ∧
      (2 ≤ kept.length → r.loop = .faulted ∧
        (loopMove i w).2 = (if w.loop = .locked then [(EventCode.lockLost, 6)] else []) ++
          [(EventCode.wheelFaulted, ((kept.length + 1 : Nat) : Int))]) := by
  have hjam' : Jams i (expireJams i w) := hjam
  dsimp only [loopMove]
  rw [wheelTransition_of_driving h, wheelDriving_eq, if_pos hjam']
  unfold wheelJammed
  have hlength : ((expireJams i w).history ++ [i.now]).length = (expireJams i w).history.length + 1 := by simp
  dsimp only
  rw [hlength]
  by_cases hthird : 3 ≤ (expireJams i w).history.length + 1
  · rw [if_pos hthird]
    dsimp only
    rw [wheelOutput_of_idle rfl]
    exact ⟨rfl, rfl, rfl, rfl, rfl, fun hfew => absurd hfew (by omega), fun _ => ⟨rfl, List.append_nil _⟩⟩
  · rw [if_neg hthird]
    dsimp only
    rw [wheelOutput_of_idle rfl]
    exact ⟨rfl, rfl, rfl, rfl, rfl, fun _ => ⟨rfl, rfl, List.append_nil _⟩, fun hmany => absurd hmany (by omega)⟩

/-- R82: at a ramped target of 0 the loop winds down. -/
theorem loopMove_of_wind_down (h : w.loop.driving = true) (hjam : ¬ Jams i w) (hramped : w.ramped ≤ 0) :
    let r := (loopMove i w).1
    r.history = (expireJams i w).history ∧ r.u = max 0 (w.u - par i.params 26) ∧ r.residue = 0 ∧ r.acquireCount = 0 ∧
      r.lockCount = 0 ∧ r.exitCount = 0 ∧
      (r.u = 0 → r.loop = .off ∧ r.jamCount = 0 ∧ r.drive = 0 ∧
        (loopMove i w).2 = if w.loop = .locked then [(EventCode.lockLost, 0)] else []) ∧
      (r.u ≠ 0 → r.loop = w.loop ∧ r.jamCount = jamNext i w ∧ r.drive = w.signed r.u ∧ (loopMove i w).2 = []) := by
  have hjam' : ¬ Jams i (expireJams i w) := hjam
  have hramped' : ¬ 0 < (expireJams i w).ramped := hramped.not_gt
  dsimp only [loopMove]
  rw [wheelTransition_of_driving h, wheelDriving_eq, if_neg hjam', if_neg hramped']
  dsimp only
  rw [wheelOutput_of_wound (by exact h) (by exact hramped)]
  unfold wheelWindDown
  dsimp only
  by_cases hzero : max 0 (w.u - par i.params 26) = 0
  · have hzero' : max 0 ((expireJams i w).u - par i.params 26) = 0 := hzero
    rw [if_pos hzero']
    exact ⟨rfl, rfl, rfl, rfl, rfl, rfl, fun _ => ⟨rfl, rfl, rfl, rfl⟩, fun h => absurd hzero h⟩
  · have hzero' : ¬ max 0 ((expireJams i w).u - par i.params 26) = 0 := hzero
    rw [if_neg hzero']
    exact ⟨rfl, rfl, rfl, rfl, rfl, rfl, fun h => absurd h hzero,
      fun _ => ⟨rfl, rfl, driveOutput_of_driving (by exact h), rfl⟩⟩

/-! The counts of the windows, as one compute moves them (R77 to R80). -/

def Wheel.acquires (i : WheelInput) (w : Wheel) : Nat := if mag w.error ≤ par i.params 22 then w.acquireCount + 1 else 0

def Wheel.locks (i : WheelInput) (w : Wheel) : Nat := if mag w.error ≤ par i.params 23 then w.lockCount + 1 else 0

def Wheel.exits (i : WheelInput) (w : Wheel) : Nat := if par i.params 23 < mag w.error then w.exitCount + 1 else 0

/-- The error ends TRACK or LOCKED at once (R78, R79). -/
abbrev Wheel.Far (i : WheelInput) (w : Wheel) : Prop := 2 * par i.params 22 < mag w.error

theorem wheelWindows_of_acquire (h : w.loop = .acquire) : wheelWindows i w =
    if parN i.params 24 ≤ w.acquires i then ({ w with loop := .track, acquireCount := w.acquires i, lockCount := 0 }, [])
    else ({ w with acquireCount := w.acquires i }, []) := by
  unfold wheelWindows
  rw [h]
  rfl

theorem wheelWindows_of_track (h : w.loop = .track) : wheelWindows i w =
    if w.Far i then ({ w with loop := .acquire, acquireCount := 0 }, [])
    else if parN i.params 25 ≤ w.locks i then
      ({ w with loop := .locked, lockCount := w.locks i, exitCount := 0 }, [(.lockGained, i.pairSpeed)])
    else ({ w with lockCount := w.locks i }, []) := by
  unfold wheelWindows
  rw [h]
  rfl

theorem wheelWindows_of_locked (h : w.loop = .locked) : wheelWindows i w =
    if w.Far i then ({ w with loop := .acquire, acquireCount := 0 }, [(.lockLost, 1)])
    else if 2 ≤ w.exits i then
      ({ w with loop := .track, exitCount := w.exits i, lockCount := 0 }, [(.lockLost, 2)])
    else ({ w with exitCount := w.exits i }, []) := by
  unfold wheelWindows lockLost
  rw [h]
  rfl

/-- The windows change the loop state, between driving states, and the three counts alone. -/
theorem wheelWindows_frame (i : WheelInput) (h : w.loop.driving = true) :
    (wheelWindows i w).1.loop.driving = true ∧ (wheelWindows i w).1.history = w.history ∧
      (wheelWindows i w).1.jamCount = w.jamCount ∧ (wheelWindows i w).1.u = w.u ∧
      (wheelWindows i w).1.residue = w.residue := by
  cases hloop : w.loop with
  | acquire =>
    rw [wheelWindows_of_acquire hloop]
    split_ifs
    · exact ⟨rfl, rfl, rfl, rfl, rfl⟩
    · exact ⟨h, rfl, rfl, rfl, rfl⟩
  | track =>
    rw [wheelWindows_of_track hloop]
    split_ifs
    · exact ⟨rfl, rfl, rfl, rfl, rfl⟩
    · exact ⟨rfl, rfl, rfl, rfl, rfl⟩
    · exact ⟨h, rfl, rfl, rfl, rfl⟩
  | locked =>
    rw [wheelWindows_of_locked hloop]
    split_ifs
    · exact ⟨rfl, rfl, rfl, rfl, rfl⟩
    · exact ⟨rfl, rfl, rfl, rfl, rfl⟩
    · exact ⟨h, rfl, rfl, rfl, rfl⟩
  | off | stalled | backoff | faulted =>
    rw [hloop] at h
    exact absurd h nofun

/-- The wheel whose windows one compute moves. -/
def Wheel.counted (i : WheelInput) (w : Wheel) : Wheel := { expireJams i w with jamCount := jamNext i w }

/-- R76 to R81: at a ramped target above 0 the windows move, and one integral step is taken. -/
theorem loopMove_of_windows (h : w.loop.driving = true) (hjam : ¬ Jams i w) (hramped : 0 < w.ramped) :
    loopMove i w =
      (let m := wheelWindows i (w.counted i)
      ({ wheelStep i m.1 with drive := driveOutput i (wheelStep i m.1) }, m.2)) := by
  have hjam' : ¬ Jams i (expireJams i w) := hjam
  have hramped' : 0 < (expireJams i w).ramped := hramped
  have hmove : wheelTransition i w = wheelWindows i (w.counted i) := by
    rw [wheelTransition_of_driving h, wheelDriving_eq, if_neg hjam', if_pos hramped']
    rfl
  obtain ⟨hdriving, -⟩ := wheelWindows_frame (w := w.counted i) i h
  have hm : (wheelWindows i (w.counted i)).1.ramped = w.ramped := congrArg (·.2.1) (wheelWindows_aim i (w.counted i))
  unfold loopMove
  rw [hmove, wheelOutput_of_ramped hdriving (by rw [hm]; exact hramped), List.append_nil]

theorem loopMove_windows_frame (h : w.loop.driving = true) (hjam : ¬ Jams i w) (hramped : 0 < w.ramped) :
    let r := (loopMove i w).1
    r.history = (expireJams i w).history ∧ r.jamCount = jamNext i w ∧ r.drive = r.signed r.u ∧
      (r.u, r.residue) = integralStep (if r.loop = .acquire then par i.params 20 else par i.params 21) r.error
        (par i.params 26) w.u w.residue := by
  obtain ⟨hdriving, hhistory, hcount, hu, hresidue⟩ := wheelWindows_frame (w := w.counted i) i h
  have he := loopMove_of_windows h hjam hramped
  dsimp only at he ⊢
  rw [he]
  refine ⟨hhistory, hcount, driveOutput_of_driving (by exact hdriving), ?_⟩
  dsimp only [wheelStep]
  rw [hu, hresidue]
  rfl

/-- Of the windows, the compute shows the loop state, the three counts and the raises. -/
theorem loopMove_windows_shows (h : w.loop.driving = true) (hjam : ¬ Jams i w) (hramped : 0 < w.ramped) :
    let r := (loopMove i w).1
    let m := (wheelWindows i (w.counted i)).1
    r.loop = m.loop ∧ r.acquireCount = m.acquireCount ∧ r.lockCount = m.lockCount ∧ r.exitCount = m.exitCount ∧
      (loopMove i w).2 = (wheelWindows i (w.counted i)).2 := by
  have he := loopMove_of_windows h hjam hramped
  dsimp only at he ⊢
  rw [he]
  exact ⟨rfl, rfl, rfl, rfl, rfl⟩

section Windows

variable (hjam : ¬ Jams i w) (hramped : 0 < w.ramped)
include hjam hramped

theorem loopMove_of_acquire (h : w.loop = .acquire) :
    (loopMove i w).2 = [] ∧ (loopMove i w).1.acquireCount = w.acquires i ∧
      (parN i.params 24 ≤ w.acquires i → (loopMove i w).1.loop = .track ∧ (loopMove i w).1.lockCount = 0) ∧
      (w.acquires i < parN i.params 24 → (loopMove i w).1.loop = .acquire) := by
  obtain ⟨hloop, hacquire, hlock, -, hraises⟩ := loopMove_windows_shows (by rw [h]; rfl) hjam hramped
  rw [hloop, hacquire, hlock, hraises, wheelWindows_of_acquire (w := w.counted i) h]
  rw [show (w.counted i).acquires i = w.acquires i from rfl]
  by_cases hn : parN i.params 24 ≤ w.acquires i
  · rw [if_pos hn]
    exact ⟨rfl, rfl, fun _ => ⟨rfl, rfl⟩, fun hlt => absurd hn hlt.not_ge⟩
  · rw [if_neg hn]
    exact ⟨rfl, rfl, fun hle => absurd hle hn, fun _ => h⟩

theorem loopMove_of_track (h : w.loop = .track) :
    (w.Far i → (loopMove i w).2 = [] ∧ (loopMove i w).1.loop = .acquire ∧ (loopMove i w).1.acquireCount = 0) ∧
      (¬ w.Far i → (loopMove i w).1.lockCount = w.locks i ∧
        (parN i.params 25 ≤ w.locks i → (loopMove i w).1.loop = .locked ∧ (loopMove i w).1.exitCount = 0 ∧
          (loopMove i w).2 = [(EventCode.lockGained, i.pairSpeed)]) ∧
        (w.locks i < parN i.params 25 → (loopMove i w).1.loop = .track ∧ (loopMove i w).2 = [])) := by
  obtain ⟨hloop, hacquire, hlock, hexit, hraises⟩ := loopMove_windows_shows (by rw [h]; rfl) hjam hramped
  rw [hloop, hacquire, hlock, hexit, hraises, wheelWindows_of_track (w := w.counted i) h]
  rw [show (w.counted i).locks i = w.locks i from rfl]
  by_cases hfar : w.Far i
  · rw [if_pos (c := (w.counted i).Far i) hfar]
    exact ⟨fun _ => ⟨rfl, rfl, rfl⟩, fun hnear => absurd hfar hnear⟩
  · rw [if_neg (c := (w.counted i).Far i) hfar]
    refine ⟨fun h => absurd h hfar, fun _ => ?_⟩
    by_cases hn : parN i.params 25 ≤ w.locks i
    · rw [if_pos hn]
      exact ⟨rfl, fun _ => ⟨rfl, rfl, rfl⟩, fun hlt => absurd hn hlt.not_ge⟩
    · rw [if_neg hn]
      exact ⟨rfl, fun hle => absurd hle hn, fun _ => ⟨h, rfl⟩⟩

theorem loopMove_of_locked (h : w.loop = .locked) :
    (w.Far i → (loopMove i w).2 = [(EventCode.lockLost, 1)] ∧ (loopMove i w).1.loop = .acquire ∧
        (loopMove i w).1.acquireCount = 0) ∧
      (¬ w.Far i → (loopMove i w).1.exitCount = w.exits i ∧
        (2 ≤ w.exits i → (loopMove i w).1.loop = .track ∧ (loopMove i w).1.lockCount = 0 ∧
          (loopMove i w).2 = [(EventCode.lockLost, 2)]) ∧
        (w.exits i < 2 → (loopMove i w).1.loop = .locked ∧ (loopMove i w).2 = [])) := by
  obtain ⟨hloop, hacquire, hlock, hexit, hraises⟩ := loopMove_windows_shows (by rw [h]; rfl) hjam hramped
  rw [hloop, hacquire, hlock, hexit, hraises, wheelWindows_of_locked (w := w.counted i) h]
  rw [show (w.counted i).exits i = w.exits i from rfl]
  by_cases hfar : w.Far i
  · rw [if_pos (c := (w.counted i).Far i) hfar]
    exact ⟨fun _ => ⟨rfl, rfl, rfl⟩, fun hnear => absurd hfar hnear⟩
  · rw [if_neg (c := (w.counted i).Far i) hfar]
    refine ⟨fun h => absurd h hfar, fun _ => ?_⟩
    by_cases hn : 2 ≤ w.exits i
    · rw [if_pos hn]
      exact ⟨rfl, fun _ => ⟨rfl, rfl, rfl⟩, fun hlt => absurd hn hlt.not_ge⟩
    · rw [if_neg hn]
      exact ⟨rfl, fun hle => absurd hle hn, fun _ => ⟨h, rfl⟩⟩

end Windows

end Loop

/-! ### The table of the loop -/

/-- The start from rest, in the form of the table. -/
theorem AcquiresFromRest.all {i : WheelInput} {r : Wheel} (h : AcquiresFromRest i r) :
    r.loop = .acquire ∧ r.acquireCount = 0 ∧ r.jamCount = 0 ∧
      r.drive = (if r.direction = .forward then r.u else -r.u) ∧
      (r.u, r.residue) = integralStep (par i.params 20) r.error (par i.params 26) 0 0 :=
  ⟨h.loop, h.acquire, h.jam, h.drive, h.step⟩

/-- Settles O51: stages 2 and 3 read stage 1 in the direction, the ramped target, the target and the error, which they leave;
then each clause is the lemma of its starting loop state. -/
theorem wheelLoopFollowsTable : Obligations.WheelLoopFollowsTable := by
  intro i w₀
  obtain ⟨w, hw⟩ : ∃ w, wheelTarget i w₀ = w := ⟨_, rfl⟩
  obtain ⟨hloop, hhistory, hjam, hstall, hback, hacquire, hlock, hexit, hu, hresidue⟩ :
      w₀.loop = w.loop ∧ w₀.history = w.history ∧ w₀.jamCount = w.jamCount ∧ w₀.stallCount = w.stallCount ∧
      w₀.backoffCount = w.backoffCount ∧ w₀.acquireCount = w.acquireCount ∧ w₀.lockCount = w.lockCount ∧
      w₀.exitCount = w.exitCount ∧ w₀.u = w.u ∧ w₀.residue = w.residue := by
    subst hw
    exact ⟨rfl, rfl, rfl, rfl, rfl, rfl, rfl, rfl, rfl, rfl⟩
  have herror : ((loopMove i w).1.error.natAbs : Int) = mag w.error := by rw [loopMove_error, mag_eq_natAbs]
  rw [wheelCompute_eq, hw]
  dsimp only
  rw [hloop, hhistory, hjam, hstall, hback, hacquire, hlock, hexit, hu, hresidue, herror, loopMove_direction, loopMove_ramped,
    loopMove_target]
  have hsign : (loopMove i w).1.direction = w.direction := loopMove_direction i w
  refine ⟨fun h => ?off, fun h => loopMove_of_stalled h, fun h => ?backoff, fun h => loopMove_of_faulted h,
    fun h hj => loopMove_of_jam h hj, fun h hj hr => loopMove_of_wind_down h hj hr, fun h hj hr => ?windows⟩
  case off =>
    obtain ⟨hraises, hkept, hstart, hstay⟩ := loopMove_of_off (i := i) h
    exact ⟨hraises, hkept, fun ht hr => hsign ▸ (hstart ht hr).all, hstay⟩
  case backoff =>
    obtain ⟨hraises, hkept, hstart, hstop, hstay⟩ := loopMove_of_backoff (i := i) h
    exact ⟨hraises, hkept, fun hc hr => hsign ▸ (hstart hc hr).all, hstop, hstay⟩
  case windows =>
    obtain ⟨hkept, hcount, hdrive, hstep⟩ := loopMove_windows_frame h hj hr
    exact ⟨hkept, hcount, hsign ▸ hdrive, hstep, fun hl => loopMove_of_acquire hj hr hl,
      fun hl => (loopMove_of_track hj hr hl).1, fun hl => (loopMove_of_track hj hr hl).2,
      fun hl => (loopMove_of_locked hj hr hl).1, fun hl => (loopMove_of_locked hj hr hl).2⟩

end Sys2Proof.Machine

/-! ## Marks

What a mark does, block by block (R26 and the table of spec/02 section 2.2), and the settlements of O14 and O20. -/

namespace Sys2Proof.Machine

/-! ### What offers and withdrawals leave in the list -/

theorem findKey_cons (k : Key) (e : Entry) (l : List Entry) :
    findKey k (e :: l) = if e.content.key = k then some e else findKey k l := by
  unfold findKey
  by_cases h : e.content.key = k <;> simp [h]

theorem findKey_insertEntry_other {k : Key} {e : Entry} (h : e.content.key ≠ k) (l : List Entry) :
    findKey k (insertEntry e l) = findKey k l := by
  induction l with
  | nil => simp [insertEntry, findKey_cons, h]
  | cons x l ih =>
    unfold insertEntry
    split
    · rw [findKey_cons, if_neg h]
    · rw [findKey_cons, findKey_cons, ih]

theorem findKey_absorb_other {k : Key} {c : Content} (h : c.key ≠ k) (l : List Entry) :
    findKey k (l.map (Entry.absorb c)) = findKey k l := by
  induction l with
  | nil => rfl
  | cons x l ih =>
    rw [List.map_cons, findKey_cons, findKey_cons, Entry.absorb_key, ih]
    by_cases hx : x.content.key = k
    · rw [if_pos hx, if_pos hx, Entry.absorb_of_key_ne (fun he => h (he.symm.trans hx))]
    · rw [if_neg hx, if_neg hx]

/-- An offer stands apart from the entries of other keys. -/
theorem Outbound.findKey_offer_other {k : Key} {c : Content} (h : c.key ≠ k) (o : Outbound) :
    findKey k (o.offer c).entries = findKey k o.entries := by
  rcases o.offer_cases c with ⟨-, he⟩ | ⟨-, he⟩ <;> rw [he]
  · exact findKey_insertEntry_other h _
  · exact findKey_absorb_other h _

theorem findKey_dropKey_same (k : Key) (l : List Entry) : findKey k (dropKey k l) = none :=
  findKey_none.mpr fun _ he => (mem_dropKey.mp he).2

theorem findKey_dropKey_other {k j : Key} (h : k ≠ j) (l : List Entry) : findKey k (dropKey j l) = findKey k l := by
  unfold findKey dropKey
  rw [List.find?_filter]
  refine List.find?_congr fun e _ => ?_
  by_cases he : e.content.key = k
  · simp [he, h]
  · simp [he]

theorem State.findKey_told_other {s : State} {k : Key} {code : EventCode} (h : Key.notice code ≠ k) (first : Half)
    (o : Outbound) (detail : Half) : findKey k (s.told first code o detail).entries = findKey k o.entries := by
  unfold State.told
  split
  · exact Outbound.findKey_offer_other (c := .notice _ _ _ _ _) h o
  · rfl

theorem State.findKey_tellAll_other {s : State} {k : Key} {l : List Raise} (h : ∀ r ∈ l, Key.notice r.1 ≠ k) (first : Half)
    (o : Outbound) : findKey k (s.tellAll first l o).entries = findKey k o.entries := by
  induction l generalizing o with
  | nil => rfl
  | cons r l ih =>
    obtain ⟨hr, hl⟩ := List.forall_mem_cons.mp h
    exact (ih hl _).trans (State.findKey_told_other hr first o _)

/-- A REPORT offered stands in the list as it was offered (R11). -/
theorem Outbound.report_mem_offer (o : Outbound) (r : Report) :
    ∃ e ∈ (o.offer (.report r)).entries, e.content = .report r := by
  rcases o.offer_cases (.report r) with ⟨-, he⟩ | ⟨⟨p, hp, hkey⟩, he⟩ <;> rw [he]
  · exact ⟨_, mem_insertEntry.mpr (.inl rfl), rfl⟩
  · refine ⟨_, List.mem_map_of_mem hp, ?_⟩
    rw [Entry.absorb_of_key_eq hkey]
    obtain ⟨content, stamp, attempts⟩ := p
    cases content with
    | report q => rfl
    | mark | countHalt | notice | countAnswer => exact absurd hkey nofun

/-! ### The steps of a mark -/

/-- The raise of R28 and R29. -/
def State.checkRaises (s : State) (n : Half) : List Raise :=
  if s.marker.irregular n then [(.markIrregular, (n.toNat : Int))] else []

/-- The raises of the rows that are lost at a mark (R47). -/
def State.lostRaises (s : State) : List Raise :=
  lostRaise (s.param 3) 0 s.row0 ++ (List.range 14).flatMap fun i => lostRaise (s.param 3) (i + 1) (s.row (i + 1))

/-- All rows after a mark (R46). -/
def State.aged (s : State) : State :=
  { s with row0 := s.row0.aged (s.param 3), rows := ⟨⟨s.rows.toList.map (Row.aged (s.param 3))⟩, by simp⟩ }

theorem State.ageRows_of_working {s : State} (h : s.control.station.working = true) :
    s.ageRows = s.aged.raised s.lostRaises :=
  State.raiseAll_of_working (s := s.aged) h _

theorem State.checkMark_of_working {s : State} (h : s.control.station.working = true) (n : Half) :
    s.checkMark n = s.raised (s.checkRaises n) := by
  unfold State.checkMark State.checkRaises
  split
  · exact State.raise_of_working h (.markIrregular, (n.toNat : Int))
  · rfl

/-! ### Fields that raises and ageing leave -/

section

variable (s : State) (l : List Raise)

@[simp] theorem State.raised_pending : (s.raised l).pending = s.pending := rfl
@[simp] theorem State.raised_hold : (s.raised l).hold = s.hold := rfl
@[simp] theorem State.raised_control : (s.raised l).control = s.control := rfl
@[simp] theorem State.raised_line : (s.raised l).line = s.line := rfl
@[simp] theorem State.raised_marker : (s.raised l).marker = s.marker := rfl
@[simp] theorem State.raised_ch0 : (s.raised l).ch0 = s.ch0 := rfl
@[simp] theorem State.raised_ch1 : (s.raised l).ch1 = s.ch1 := rfl
@[simp] theorem State.raised_row0 : (s.raised l).row0 = s.row0 := rfl
@[simp] theorem State.raised_rows : (s.raised l).rows = s.rows := rfl
@[simp] theorem State.raised_front : (s.raised l).front = s.front := rfl
@[simp] theorem State.raised_wheel : (s.raised l).wheel = s.wheel := rfl
@[simp] theorem State.raised_arb : (s.raised l).arb = s.arb := rfl
@[simp] theorem State.raised_steer : (s.raised l).steer = s.steer := rfl
@[simp] theorem State.raised_ret : (s.raised l).ret = s.ret := rfl
@[simp] theorem State.raised_duty : (s.raised l).duty = s.duty := rfl
@[simp] theorem State.raised_flags : (s.raised l).flags = latchAll s.flags l := rfl
@[simp] theorem State.raised_outbound : (s.raised l).outbound = s.tellAll s.marker.count l s.outbound := rfl

@[simp] theorem State.aged_pending : s.aged.pending = s.pending := rfl
@[simp] theorem State.aged_hold : s.aged.hold = s.hold := rfl
@[simp] theorem State.aged_control : s.aged.control = s.control := rfl
@[simp] theorem State.aged_line : s.aged.line = s.line := rfl
@[simp] theorem State.aged_outbound : s.aged.outbound = s.outbound := rfl
@[simp] theorem State.aged_marker : s.aged.marker = s.marker := rfl
@[simp] theorem State.aged_ch0 : s.aged.ch0 = s.ch0 := rfl
@[simp] theorem State.aged_ch1 : s.aged.ch1 = s.ch1 := rfl
@[simp] theorem State.aged_front : s.aged.front = s.front := rfl
@[simp] theorem State.aged_wheel : s.aged.wheel = s.wheel := rfl
@[simp] theorem State.aged_arb : s.aged.arb = s.arb := rfl
@[simp] theorem State.aged_steer : s.aged.steer = s.steer := rfl
@[simp] theorem State.aged_ret : s.aged.ret = s.ret := rfl
@[simp] theorem State.aged_duty : s.aged.duty = s.duty := rfl
@[simp] theorem State.aged_flags : s.aged.flags = s.flags := rfl
@[simp] theorem State.aged_row0 : s.aged.row0 = s.row0.aged (s.param 3) := rfl

end

/-- The station once the number is checked and set, the channels have applied and the counts have closed (R26, R34, R57). -/
def State.setAt (s : State) (n : Half) : State :=
  (((s.raised (s.checkRaises n)).setMark n).applyAtMark).closePeriod s.marker.firstMark

section

variable (s : State) (n : Half)

@[simp] theorem State.setAt_pending : (s.setAt n).pending = s.pending := by simp [State.setAt]
@[simp] theorem State.setAt_hold : (s.setAt n).hold = s.hold := by simp [State.setAt]
@[simp] theorem State.setAt_control : (s.setAt n).control = s.control := by simp [State.setAt]
@[simp] theorem State.setAt_line : (s.setAt n).line = s.line := by simp [State.setAt]
@[simp] theorem State.setAt_row0 : (s.setAt n).row0 = s.row0 := by simp [State.setAt]
@[simp] theorem State.setAt_rows : (s.setAt n).rows = s.rows := by simp [State.setAt]
@[simp] theorem State.setAt_wheel : (s.setAt n).wheel = s.wheel := by simp [State.setAt]
@[simp] theorem State.setAt_arb : (s.setAt n).arb = s.arb := by simp [State.setAt]
@[simp] theorem State.setAt_steer : (s.setAt n).steer = s.steer := by simp [State.setAt]
@[simp] theorem State.setAt_ret : (s.setAt n).ret = s.ret := by simp [State.setAt]
@[simp] theorem State.setAt_duty : (s.setAt n).duty = s.duty := by simp [State.setAt]

@[simp] theorem State.setAt_flags : (s.setAt n).flags = latchAll s.flags (s.checkRaises n) := by simp [State.setAt]

@[simp] theorem State.setAt_outbound : (s.setAt n).outbound =
    (s.tellAll s.marker.count (s.checkRaises n) s.outbound).withdraw .mark := by simp [State.setAt]

@[simp] theorem State.setAt_marker : (s.setAt n).marker = { s.marker with
    count := n, firstMark := false, periodTimer := some s.periodLength, computeTimer := some s.computeLength } := rfl

theorem State.setAt_ch0 : (s.setAt n).ch0 = if s.compute0 then s.ch0 else s.ch0.apply := by
  simp [State.setAt]
  rfl

theorem State.setAt_ch1 : (s.setAt n).ch1 = if s.compute1 then s.ch1 else s.ch1.apply := by
  simp [State.setAt]
  rfl

theorem State.setAt_front : (s.setAt n).front = { s.front with
    pulse1 := s.front.pulse1.close (parN s.control.params 11) s.marker.firstMark
    pulse2 := s.front.pulse2.close (parN s.control.params 11) s.marker.firstMark } := rfl

@[simp] theorem State.setAt_param (k : Nat) : (s.setAt n).param k = s.param k := by simp [State.param]

theorem State.setAt_row (k : Nat) : (s.setAt n).row k = s.row k := by simp [State.row]

theorem State.setAt_lostRaises : (s.setAt n).lostRaises = s.lostRaises := by
  simp only [State.lostRaises, State.setAt_param, State.setAt_row0, State.setAt_row]

end

/-- The station right before the REPORT is offered. -/
def State.beforeReport (s : State) (n : Half) : State :=
  ((s.setAt n).aged.raised (s.setAt n).lostRaises).windowMark.handoff

theorem State.windowMark_working {s : State} (h : s.control.station.working = true) :
    s.windowMark.control.station.working = true := by
  unfold State.windowMark
  dsimp only
  split
  · next hsetup =>
    split
    · rcases State.validate_cases { s with control := { s.control with setupCount := s.control.setupCount + 1 } } with
        ⟨-, he⟩ | ⟨n, -, he⟩ <;> rw [he] <;> rfl
    · exact h
  · exact h

/-- A mark that is taken (R26, R172). -/
theorem State.takeMark_of_working {s : State} (h : s.control.station.working = true) (origin : MarkOrigin) (n : Half) :
    s.takeMark origin n = (let u := ({ s with line := s.line.atMark origin } : State).beforeReport n
      { u with outbound := u.outbound.offer (.report u.reportNow) }) := by
  have hchecked := State.checkMark_of_working (s := { s with line := s.line.atMark origin }) h n
  have haged := State.ageRows_of_working (s := ({ s with line := s.line.atMark origin } : State).setAt n) h
  have hworking : (({ s with line := s.line.atMark origin } : State).beforeReport n).control.station.working = true := by
    unfold State.beforeReport
    rw [State.handoff_control]
    exact State.windowMark_working h
  have htaken : s.takeMark origin n =
      ((((({ s with line := s.line.atMark origin } : State).checkMark n).setMark n).applyAtMark).closePeriod
        s.marker.firstMark).ageRows.windowMark.handoff.offerReport := if_pos h
  rw [htaken, hchecked]
  exact (congrArg (fun u : State => u.windowMark.handoff.offerReport) haged).trans (State.offer_of_working hworking _)

theorem State.takeMark_of_not_working {s : State} (h : s.control.station.working = false) (origin : MarkOrigin) (n : Half) :
    s.takeMark origin n = s := if_neg (by simp [h])

/-! ### What the steps leave -/

theorem State.validate_control_congr {s t : State} (h : s.control = t.control) :
    s.validate.control = t.validate.control := by
  have hparam (n : Nat) : s.param n = t.param n := by unfold State.param; rw [h]
  have hrole : s.role = t.role := by unfold State.role; rw [h]
  have hpasses (n : Nat) : s.checkPasses n = t.checkPasses n := by
    unfold State.checkPasses
    simp only [hparam, hrole]
  have hfirst : s.firstFailing = t.firstFailing := by
    unfold State.firstFailing
    simp only [hpasses]
  unfold State.validate
  rw [hfirst, hrole, h]
  cases t.firstFailing <;> rfl

/-- R160: the setup window at a mark, of station control alone. -/
theorem State.windowMark_control (s : State) :
    (s.control.station ≠ .setup → s.windowMark.control = s.control) ∧
      (s.control.station = .setup → s.control.setupCount + 1 < 300 →
        s.windowMark.control = { s.control with setupCount := s.control.setupCount + 1 }) ∧
      (s.control.station = .setup → 300 ≤ s.control.setupCount + 1 → s.windowMark.control =
        ({ s with control := { s.control with setupCount := s.control.setupCount + 1 } } : State).validate.control) := by
  unfold State.windowMark
  refine ⟨fun h => ?_, fun h hlt => ?_, fun h hle => ?_⟩
  · rw [if_neg h]
  · rw [if_pos h]
    exact congrArg _ (if_neg hlt.not_ge)
  · rw [if_pos h]
    exact congrArg _ (if_pos hle)

/-- R106: only a WHEEL station that does not follow moves its differential at a mark. -/
theorem State.handoff_arb (s : State) : s.handoff.arb =
    if s.role = some .wheel ∧ s.arb.standing ≠ .follower then { s.arb with inEffect := s.arb.next } else s.arb := by
  unfold State.handoff arbMark
  by_cases hrole : s.role = some .wheel
  · by_cases hstanding : s.arb.standing = .follower <;> simp [hrole, hstanding]
  · simp [hrole]

theorem State.windowMark_straps (s : State) : s.windowMark.control.straps = s.control.straps := by
  unfold State.windowMark
  dsimp only
  split
  · split
    · rcases State.validate_cases { s with control := { s.control with setupCount := s.control.setupCount + 1 } } with
        ⟨-, he⟩ | ⟨n, -, he⟩ <;> rw [he]
    · rfl
  · rfl

theorem Row.ages {α : Type} (limit : Int) (r : Row α) : RowAges limit r (r.aged limit) := by
  cases r with
  | never => rfl
  | heard life age c =>
    have hage := satSucc_min 255 age
    cases life <;> simp [RowAges, Row.aged, agedLife, hage]

theorem State.aged_row (s : State) (k : Nat) : s.aged.row k = (s.row k).aged (s.param 3) := by
  unfold State.row State.aged
  dsimp only
  split_ifs
  · rfl
  · by_cases hk : k - 1 < 14 <;> simp [hk, Row.aged]

theorem Pulse.closes (w : Nat) (first : Bool) (p : Pulse) : PulseCloses w first p (p.close w first) := by
  refine ⟨rfl, ?_, rfl⟩
  cases first <;> simp [Pulse.close, newest]

theorem Marker.irregular_iff (m : Marker) (n : Half) :
    m.irregular n = true ↔ (m.firstMark = false ∧ n ≠ m.count + 1) ∨ m.computeTimer.isSome = true := by
  simp [Marker.irregular]

theorem State.row_live_bounds {s : State} {k : Nat} (h : (s.row k).live = true) : 1 ≤ k ∧ k ≤ 14 := by
  unfold State.row at h
  split at h
  · exact absurd h nofun
  · next hk =>
    refine ⟨by omega, ?_⟩
    by_contra hgt
    rw [show s.rows[k - 1]? = none by simp; omega] at h
    exact absurd h nofun

theorem mem_lostRaise {α : Type} {limit : Int} {n : Nat} {r : Row α} {a : Raise} :
    a ∈ lostRaise limit n r ↔ RowLost r (r.aged limit) ∧ a = (.peerLost, (n : Int)) := by
  unfold lostRaise RowLost
  split
  · next h => simpa using fun _ => h
  · next h => simpa using fun h1 h2 => absurd ⟨h1, by simpa using h2⟩ h

/-- The stations of the rows that are lost at a mark, in ascending number, 0 for row 0 (R47). -/
def State.lostNumbers (s : State) : List Nat :=
  (if s.row0.live && !(s.row0.aged (s.param 3)).live then [0] else []) ++
    ((List.range 14).map (· + 1)).filter fun k => (s.row k).live && !((s.row k).aged (s.param 3)).live

theorem State.lostRaises_eq (s : State) : s.lostRaises = s.lostNumbers.map fun k : Nat => (EventCode.peerLost, (k : Int)) := by
  have hone {α : Type} (n : Nat) (r : Row α) : lostRaise (s.param 3) n r =
      (if r.live && !(r.aged (s.param 3)).live then [n] else []).map fun k : Nat => (EventCode.peerLost, (k : Int)) := by
    unfold lostRaise
    cases r.live <;> cases (r.aged (s.param 3)).live <;> rfl
  have hmany (l : List Nat) : (l.flatMap fun i => lostRaise (s.param 3) (i + 1) (s.row (i + 1))) =
      ((l.map (· + 1)).filter fun k => (s.row k).live && !((s.row k).aged (s.param 3)).live).map
        fun k : Nat => (EventCode.peerLost, (k : Int)) := by
    induction l with
    | nil => rfl
    | cons i l ih =>
      rw [List.flatMap_cons, ih, hone, List.map_cons, List.filter_cons]
      split <;> rfl
  unfold State.lostRaises State.lostNumbers
  rw [List.map_append, hone, hmany]

/-- The peer losses that a mark latches (R47). -/
theorem State.mem_lostRaises {s : State} {c : EventCode} :
    (∃ detail, (c, detail) ∈ s.lostRaises) ↔ c = .peerLost ∧
      (RowLost s.row0 (s.row0.aged (s.param 3)) ∨ ∃ k, RowLost (s.row k) ((s.row k).aged (s.param 3))) := by
  unfold State.lostRaises
  constructor
  · rintro ⟨d, hd⟩
    rcases List.mem_append.mp hd with h | h
    · obtain ⟨hlost, he⟩ := mem_lostRaise.mp h
      exact ⟨congrArg Prod.fst he, .inl hlost⟩
    · obtain ⟨i, -, hi⟩ := List.mem_flatMap.mp h
      obtain ⟨hlost, he⟩ := mem_lostRaise.mp hi
      exact ⟨congrArg Prod.fst he, .inr ⟨i + 1, hlost⟩⟩
  · rintro ⟨rfl, hlost | ⟨k, hlost⟩⟩
    · exact ⟨_, List.mem_append_left _ (mem_lostRaise.mpr ⟨hlost, rfl⟩)⟩
    · obtain ⟨h1, h14⟩ := State.row_live_bounds hlost.1
      have hk : k - 1 + 1 = k := by omega
      refine ⟨(k : Int), List.mem_append_right _ (List.mem_flatMap.mpr ⟨k - 1, List.mem_range.mpr (by omega), ?_⟩)⟩
      rw [hk]
      exact mem_lostRaise.mpr ⟨hlost, rfl⟩

theorem State.mem_checkRaises {s : State} {n : Half} {c : EventCode} :
    (∃ detail, (c, detail) ∈ s.checkRaises n) ↔ c = .markIrregular ∧ s.marker.irregular n = true := by
  unfold State.checkRaises
  split <;> simp [*]

/-! ### The effect of a mark -/

section

variable (s : State) (n : Half)

theorem State.beforeReport_outbound : (s.beforeReport n).outbound =
    s.tellAll n s.lostRaises ((s.tellAll s.marker.count (s.checkRaises n) s.outbound).withdraw .mark) := by
  simp only [State.beforeReport, State.handoff_outbound, State.windowMark_outbound, State.raised_outbound, State.aged_outbound,
    State.aged_marker, State.setAt_outbound, State.setAt_marker, State.setAt_lostRaises]
  rfl

theorem State.beforeReport_flags (c : EventCode) : inSet (s.beforeReport n).flags c = true ↔
    inSet s.flags c = true ∨ (∃ detail, (c, detail) ∈ s.checkRaises n) ∨ ∃ detail, (c, detail) ∈ s.lostRaises := by
  simp only [State.beforeReport, State.handoff_flags, State.windowMark_flags, State.raised_flags, State.aged_flags,
    State.setAt_flags, State.setAt_lostRaises, inSet_latchAll, or_assoc]

theorem State.beforeReport_marker : (s.beforeReport n).marker = (s.setAt n).marker := by simp [State.beforeReport]

theorem State.beforeReport_ch0 : (s.beforeReport n).ch0 = (s.setAt n).ch0 := by simp [State.beforeReport]

theorem State.beforeReport_ch1 : (s.beforeReport n).ch1 = (s.setAt n).ch1 := by simp [State.beforeReport]

theorem State.beforeReport_front : (s.beforeReport n).front = (s.setAt n).front := by simp [State.beforeReport]

theorem State.beforeReport_row0 : (s.beforeReport n).row0 = s.row0.aged (s.param 3) := by simp [State.beforeReport]

theorem State.beforeReport_row (k : Nat) : (s.beforeReport n).row k = (s.row k).aged (s.param 3) := by
  have hrows : (s.beforeReport n).row k = (s.setAt n).aged.row k := by
    simp only [State.row, State.beforeReport, State.handoff_rows, State.windowMark_rows, State.raised_rows]
  rw [hrows, State.aged_row, State.setAt_row, State.setAt_param]

/-- R160: the setup window at a mark. -/
theorem State.beforeReport_window :
    (s.control.station ≠ .setup → (s.beforeReport n).control = s.control) ∧
      (s.control.station = .setup → s.control.setupCount + 1 < 300 →
        (s.beforeReport n).control = { s.control with setupCount := s.control.setupCount + 1 }) ∧
      (s.control.station = .setup → 300 ≤ s.control.setupCount + 1 → (s.beforeReport n).control =
        ({ s with control := { s.control with setupCount := s.control.setupCount + 1 } } : State).validate.control) := by
  obtain ⟨hstay, hcount, hclose⟩ := State.windowMark_control ((s.setAt n).aged.raised (s.setAt n).lostRaises)
  simp only [State.raised_control, State.aged_control, State.setAt_control] at hstay hcount hclose
  simp only [State.beforeReport, State.handoff_control]
  exact ⟨hstay, hcount, fun h hle => (hclose h hle).trans (State.validate_control_congr rfl)⟩

theorem State.beforeReport_arb : (s.beforeReport n).arb =
    if s.role = some .wheel ∧ s.arb.standing ≠ .follower then { s.arb with inEffect := s.arb.next } else s.arb := by
  have hrole : ((s.setAt n).aged.raised (s.setAt n).lostRaises).windowMark.role = s.role := by
    simp only [State.role, State.windowMark_straps, State.raised_control, State.aged_control, State.setAt_control]
  rw [State.beforeReport, State.handoff_arb, hrole, State.windowMark_arb, State.raised_arb, State.aged_arb, State.setAt_arb]

theorem State.beforeReport_rest : (s.beforeReport n).pending = s.pending ∧ (s.beforeReport n).hold = s.hold ∧
    (s.beforeReport n).wheel = s.wheel ∧ (s.beforeReport n).steer = s.steer ∧ (s.beforeReport n).ret = s.ret ∧
    (s.beforeReport n).duty = s.duty := by
  simp [State.beforeReport]

theorem State.beforeReport_line : (s.beforeReport n).line = s.line := by simp [State.beforeReport]

end

theorem State.findKey_beforeReport {s : State} (n : Half) {k : Key} (hmark : k ≠ .mark)
    (hirregular : k ≠ .notice .markIrregular) (hlost : k ≠ .notice .peerLost) :
    findKey k (s.beforeReport n).outbound.entries = findKey k s.outbound.entries := by
  have hchecks : ∀ r ∈ s.checkRaises n, Key.notice r.1 ≠ k := by
    rintro ⟨c, d⟩ hr
    obtain ⟨rfl, -⟩ := State.mem_checkRaises.mp ⟨d, hr⟩
    exact hirregular.symm
  have hlosses : ∀ r ∈ s.lostRaises, Key.notice r.1 ≠ k := by
    rintro ⟨c, d⟩ hr
    obtain ⟨rfl, -⟩ := State.mem_lostRaises.mp ⟨d, hr⟩
    exact hlost.symm
  rw [State.beforeReport_outbound, State.findKey_tellAll_other hlosses, Outbound.withdraw_entries,
    findKey_dropKey_other hmark, State.findKey_tellAll_other hchecks]

theorem State.findKey_mark_beforeReport (s : State) (n : Half) :
    findKey .mark (s.beforeReport n).outbound.entries = none := by
  rw [State.beforeReport_outbound, State.findKey_tellAll_other (by simp), Outbound.withdraw_entries, findKey_dropKey_same]

/-- The list after a mark, in the words of the statement. -/
theorem State.markOutbound (s : State) (n : Half) (p : Prop) [Decidable p] (hp : s.marker.irregular n = true ↔ p) :
    (s.beforeReport n).outbound = (
      let checked := if p then s.told s.marker.count .markIrregular s.outbound n else s.outbound
      let withdrawn : Outbound := { checked with entries := checked.entries.filter fun e => e.content.key != .mark }
      s.lostNumbers.foldl (fun o k => s.told n .peerLost o (BitVec.ofNat 16 k)) withdrawn) := by
  have hchecked : s.tellAll s.marker.count (s.checkRaises n) s.outbound =
      if p then s.told s.marker.count .markIrregular s.outbound n else s.outbound := by
    unfold State.checkRaises
    by_cases h : s.marker.irregular n = true
    · rw [if_pos h, if_pos (hp.mp h)]
      simp [State.tellAll]
    · rw [if_neg h, if_neg fun hn => h (hp.mpr hn)]
      rfl
  rw [State.beforeReport_outbound, hchecked, State.lostRaises_eq, State.tellAll, List.foldl_map]
  simp only [BitVec.ofInt_natCast]
  rfl

/-- The REPORT does not look at the list. -/
theorem State.reportNow_outbound (s : State) (o : Outbound) : ({ s with outbound := o } : State).reportNow = s.reportNow :=
  rfl

/-- The station with the REPORT of a mark in its list (R172). -/
def State.reported (s : State) : State := { s with outbound := s.outbound.offer (.report s.reportNow) }

theorem State.reportNow_shows_reported (s : State) : ReportShows s.reported s.reportNow :=
  s.reportNow_outbound (s.outbound.offer (.report s.reportNow)) ▸ State.reportNow_shows s.reported

/-- What a mark does, once the line has noted it. -/
theorem State.reported_effect (s : State) (n : Half) : MarkEffect s n (s.beforeReport n).reported := by
  obtain ⟨u, hu⟩ : ∃ u, s.beforeReport n = u := ⟨_, rfl⟩
  have hmarker := s.beforeReport_marker n
  have hch0 := s.beforeReport_ch0 n
  have hch1 := s.beforeReport_ch1 n
  have hfront := s.beforeReport_front n
  have hrow0 := s.beforeReport_row0 n
  have hrow := s.beforeReport_row n
  have hflags := s.beforeReport_flags n
  have hirregular := s.marker.irregular_iff n
  have hlist := s.markOutbound n _ hirregular
  have hnone := s.findKey_mark_beforeReport n
  have hothers := fun k => State.findKey_beforeReport (s := s) n (k := k)
  obtain ⟨hstay, hcount, hclose⟩ := s.beforeReport_window n
  have harb := s.beforeReport_arb n
  have hrest := s.beforeReport_rest n
  rw [hu] at hmarker hch0 hch1 hfront hrow0 hlist hnone hstay hcount hclose harb hrest ⊢
  simp only [hu] at hrow hflags hothers
  have hother : (Content.report u.reportNow).key ≠ .mark := by simp [Content.key]
  have hlost (k : Nat) : RowLost (s.row k) (u.reported.row k) ↔ RowLost (s.row k) ((s.row k).aged (s.param 3)) := by
    rw [← hrow]
    rfl
  exact
    { marker := hmarker.trans (s.setAt_marker n)
      withdrawn := findKey_none.mp ((Outbound.findKey_offer_other hother _).trans hnone)
      ch0 := by
        refine hch0.trans ((s.setAt_ch0 n).trans ((if_congr s.compute0_iff rfl rfl).trans ?_))
        split <;> rfl
      ch1 := by
        refine hch1.trans ((s.setAt_ch1 n).trans ((if_congr s.compute1_iff rfl rfl).trans ?_))
        split <;> rfl
      pulse1 := by
        change PulseCloses _ _ _ u.front.pulse1
        rw [hfront, State.setAt_front]
        exact Pulse.closes _ _ _
      pulse2 := by
        change PulseCloses _ _ _ u.front.pulse2
        rw [hfront, State.setAt_front]
        exact Pulse.closes _ _ _
      front := by
        change u.front = { s.front with pulse1 := u.front.pulse1, pulse2 := u.front.pulse2 }
        rw [hfront, State.setAt_front]
      row0 := by
        change RowAges _ _ u.row0
        rw [hrow0]
        exact Row.ages _ _
      rows := fun k => by
        change RowAges _ _ (u.row k)
        rw [hrow]
        exact Row.ages _ _
      flags := fun c => by
        have hlost0 : RowLost s.row0 u.reported.row0 ↔ RowLost s.row0 (s.row0.aged (s.param 3)) := by
          rw [← hrow0]
          rfl
        simp only [hlost0, hlost]
        rw [← hirregular, ← State.mem_checkRaises, ← State.mem_lostRaises]
        exact hflags c
      outbound := by
        refine ⟨u.reportNow, u.reportNow_shows_reported, ?_⟩
        have hrow0' : u.reported.row0 = s.row0.aged (s.param 3) := hrow0
        have hrow' (k : Nat) : u.reported.row k = (s.row k).aged (s.param 3) := hrow k
        simp only [hrow0', hrow']
        exact congrArg (Outbound.offer · _) hlist
      noWindow := hstay
      window := hcount
      closed := hclose
      arb := harb
      report := by
        obtain ⟨e, he, hcontent⟩ := u.outbound.report_mem_offer u.reportNow
        exact ⟨e, he, _, hcontent, u.reportNow_shows_reported⟩
      others := fun k hmark hreport hnotice hlost =>
        (Outbound.findKey_offer_other (c := .report _) hreport.symm _).trans (hothers k hmark hnotice hlost)
      frame := hrest }

/-- The effect of a mark does not read the line. -/
theorem MarkEffect.of_line {s t : State} {n : Half} {line : Line} (h : MarkEffect { s with line := line } n t) :
    MarkEffect s n t where
  marker := h.marker
  withdrawn := h.withdrawn
  ch0 := h.ch0
  ch1 := h.ch1
  pulse1 := h.pulse1
  pulse2 := h.pulse2
  front := h.front
  row0 := h.row0
  rows := h.rows
  flags := h.flags
  outbound := h.outbound
  noWindow := h.noWindow
  window := h.window
  closed := fun hs hle => (h.closed hs hle).trans (State.validate_control_congr rfl)
  arb := h.arb
  report := h.report
  others := h.others
  frame := h.frame

theorem State.takeMark_effect {s : State} (h : s.control.station.working = true) (origin : MarkOrigin) (n : Half) :
    MarkEffect s n (s.takeMark origin n) ∧ (s.takeMark origin n).line = s.line.atMark origin := by
  rw [State.takeMark_of_working h]
  exact ⟨(State.reported_effect { s with line := s.line.atMark origin } n).of_line, State.beforeReport_line _ n⟩

/-- The isolation count and the line health after an own mark (R20). -/
theorem Line.atMark_own (l : Line) : l.atMark .own = { l with
    isolation := min 3 (l.isolation + 1), health := if 2 ≤ l.isolation then .isolated else l.health } := by
  have hcount := satSucc_min 3 l.isolation
  have hthird : 3 ≤ min 3 (l.isolation + 1) ↔ 2 ≤ l.isolation := by omega
  unfold Line.atMark
  simp only [hcount, hthird]

/-- Settles O14: both outcomes empty the slot and take a mark of the station's own. -/
theorem ownMarkTakenSentOrFailed : Obligations.OwnMarkTakenSentOrFailed := by
  intro s slot n running working hslot hcontent line
  have htaken (m : Half) : MarkEffect s m ((s.emptySlot .between).takeMark .own m) ∧
      ((s.emptySlot .between).takeMark .own m).line = line := by
    obtain ⟨heffect, hline⟩ := State.takeMark_effect (s := s.emptySlot .between) working .own m
    exact ⟨heffect.of_line, hline.trans (Line.atMark_own _)⟩
  have hsent : s.sent = (s.emptySlot .between).takeMark .own n := by
    simp only [State.sent, hslot, hcontent]
  have hfailed : s.failed = (s.emptySlot .between).takeMark .own (s.marker.count + 1) := by
    simp only [State.failed, hslot, hcontent]
  have hexecSent : exec .attemptSent s = .next s.sent := congrArg _ (State.whileRunning_of_running running _)
  have hexecFailed : exec .attemptFailed s = .next s.failed := congrArg _ (State.whileRunning_of_running running _)
  rw [hexecSent, hexecFailed, hsent, hfailed]
  exact ⟨⟨_, rfl, htaken n⟩, ⟨_, rfl, htaken _⟩⟩

/-- Settles O20: after hearing the source, the mark is taken. -/
theorem markFromOtherTaken : Obligations.MarkFromOtherTaken := by
  intro source target n s h
  obtain ⟨heffect, hline⟩ := State.takeMark_effect (s := s.afterHearing) h.working .other n
  have hexec : exec (.mark source target n) s = .next (s.afterHearing.takeMark .other n) := congrArg _ (h.receive _)
  exact ⟨_, hexec, heffect.of_line, hline⟩

end Sys2Proof.Machine

/-! ## What no command changes

The parts of the station that each operation leaves, and the settlements of O29 to O35: what can change the roles, the
counters and the parameters, and what moves a station out of CLASH and STRAP FAULT. -/

namespace Sys2Proof.Machine

/-! ### The parts that an operation leaves -/

section Mark

variable (s : State) (origin : MarkOrigin) (n : Half)

theorem State.takeMark_rest : (s.takeMark origin n).pending = s.pending ∧ (s.takeMark origin n).hold = s.hold ∧
    (s.takeMark origin n).wheel = s.wheel ∧ (s.takeMark origin n).steer = s.steer ∧
    (s.takeMark origin n).ret = s.ret ∧ (s.takeMark origin n).duty = s.duty := by
  cases h : s.control.station.working with
  | true => exact (State.takeMark_effect h origin n).1.frame
  | false =>
    rw [State.takeMark_of_not_working h]
    exact ⟨rfl, rfl, rfl, rfl, rfl, rfl⟩

@[simp] theorem State.takeMark_hold : (s.takeMark origin n).hold = s.hold := (s.takeMark_rest origin n).2.1
@[simp] theorem State.takeMark_wheel : (s.takeMark origin n).wheel = s.wheel := (s.takeMark_rest origin n).2.2.1
@[simp] theorem State.takeMark_steer : (s.takeMark origin n).steer = s.steer := (s.takeMark_rest origin n).2.2.2.1
@[simp] theorem State.takeMark_ret : (s.takeMark origin n).ret = s.ret := (s.takeMark_rest origin n).2.2.2.2.1
@[simp] theorem State.takeMark_duty : (s.takeMark origin n).duty = s.duty := (s.takeMark_rest origin n).2.2.2.2.2

@[simp] theorem State.validate_params : s.validate.control.params = s.control.params := by
  rcases s.validate_cases with ⟨-, he⟩ | ⟨n, -, he⟩ <;> rw [he]

@[simp] theorem State.validate_straps : s.validate.control.straps = s.control.straps := by
  rcases s.validate_cases with ⟨-, he⟩ | ⟨n, -, he⟩ <;> rw [he]

@[simp] theorem State.windowMark_params : s.windowMark.control.params = s.control.params := by
  unfold State.windowMark
  dsimp only
  split
  · split
    · exact State.validate_params _
    · rfl
  · rfl

@[simp] theorem State.takeMark_params : (s.takeMark origin n).control.params = s.control.params := by
  unfold State.takeMark
  split <;> simp

end Mark

section Outcomes

variable {s : State} {slot : Slot}

/-- What a FAILED attempt does: the own MARK is taken as a local mark, another entry returns or is discarded (R8, R27). -/
theorem State.failed_cases (h : s.line.slot = some slot) :
    ((∃ n, slot.entry.content = .mark n) ∧ s.failed = (s.emptySlot .between).takeMark .own (s.marker.count + 1)) ∨
      ((∀ n, slot.entry.content ≠ .mark n) ∧ s.failed = (s.emptySlot .between).failEntry slot.entry) := by
  simp only [State.failed, h]
  cases slot.entry.content with
  | mark n => exact .inl ⟨⟨n, rfl⟩, rfl⟩
  | countHalt | report | notice | countAnswer => exact .inr ⟨nofun, rfl⟩

/-- What a SENT attempt does (R9). -/
theorem State.sent_cases (h : s.line.slot = some slot) :
    (∃ n, slot.entry.content = .mark n ∧ s.sent = (s.emptySlot .between).takeMark .own n) ∨
      (∃ index, slot.entry.content = .countHalt index ∧ s.sent = (s.emptySlot .between).freezeOwn) ∨
      s.sent = s.emptySlot .between := by
  simp only [State.sent, h]
  cases slot.entry.content with
  | mark n => exact .inl ⟨n, rfl, rfl⟩
  | countHalt index => exact .inr (.inl ⟨index, rfl, rfl⟩)
  | report | notice | countAnswer => exact .inr (.inr rfl)

theorem State.outbid_frame (h : s.line.slot = some slot) :
    s.outbid = { s.emptySlot .inTelegram with outbound := s.outbound.giveBack slot.entry } := by
  simp only [State.outbid, h]

/-- A discarded entry freezes the counters where it is a COUNT HALT; else the list alone changes (R8, R153). -/
theorem State.failEntry_cases (s : State) (e : Entry) :
    ((∃ index, e.content = .countHalt index) ∧ s.failEntry e = s.freezeOwn) ∨
      ∃ outbound, s.failEntry e = { s with outbound := outbound } := by
  unfold State.failEntry
  split
  · cases e.content with
    | countHalt index => exact .inl ⟨⟨index, rfl⟩, rfl⟩
    | mark | report | notice | countAnswer => exact .inr ⟨_, rfl⟩
  · exact .inr ⟨_, rfl⟩

end Outcomes

section Telegrams

variable (s : State)

/-- R19: an own number heard changes neither rows nor front end nor roles nor counters. -/
theorem State.ownNumberHeard_frame : ∃ control outbound marker ch0 flags, s.ownNumberHeard = { s with
    control := control, outbound := outbound, marker := marker, ch0 := ch0, flags := flags } ∧
      control.params = s.control.params := by
  unfold State.ownNumberHeard
  split
  · unfold State.enterClash
    dsimp only
    split <;> exact ⟨_, _, _, _, _, rfl, rfl⟩
  · split
    · exact ⟨s.control, _, s.marker, s.ch0, _, rfl, rfl⟩
    · exact ⟨s.control, s.outbound, s.marker, s.ch0, s.flags, rfl, rfl⟩

theorem State.takeLoad_frame (index : Byte) (v : Quad) :
    ∃ duty outbound, s.takeLoad index v = { s with duty := duty, outbound := outbound } := by
  unfold State.takeLoad State.offerAnswer
  split
  · exact ⟨s.duty, _, State.offer_frame _ _⟩
  · split
    · exact ⟨_, _, State.offer_frame _ _⟩
    · exact ⟨s.duty, _, State.offer_frame _ _⟩

theorem State.takeQuery_frame (index : Byte) : ∃ outbound, s.takeQuery index = { s with outbound := outbound } := by
  unfold State.takeQuery State.offerAnswer
  split <;> exact ⟨_, State.offer_frame _ _⟩

/-- What storing a parameter changes beside the table: rings or a previous condition (R58, R149). -/
theorem State.stored_frame (n : Nat) : ∃ front duty, s.stored n = { s with front := front, duty := duty } ∧
    ∀ i : Fin 4, duty.counters[i].value = s.duty.counters[i].value ∧
      duty.counters[i].overflow = s.duty.counters[i].overflow := by
  unfold State.stored
  split
  · exact ⟨_, s.duty, rfl, fun _ => ⟨rfl, rfl⟩⟩
  · split
    · exact ⟨s.front, s.duty, rfl, fun _ => ⟨rfl, rfl⟩⟩
    · next j _ =>
      refine ⟨s.front, _, rfl, fun i => ?_⟩
      by_cases hij : i = j
      · subst hij
        simp [Duty.update, Counter.restarted]
      · rw [Duty.update_other _ hij]
        exact ⟨rfl, rfl⟩

theorem State.setupParam_frame (n : Nat) (v : Half) : ∃ control front duty flags outbound,
    s.setupParam n v = { s with
      control := control, front := front, duty := duty, flags := flags, outbound := outbound } ∧
    ∀ i : Fin 4, duty.counters[i].value = s.duty.counters[i].value ∧
      duty.counters[i].overflow = s.duty.counters[i].overflow := by
  unfold State.setupParam
  split
  · exact ⟨s.control, s.front, s.duty, s.flags, s.outbound, rfl, fun _ => ⟨rfl, rfl⟩⟩
  · dsimp only
    split <;>
      (obtain ⟨front, duty, he, hcounters⟩ := State.stored_frame _ n
       rw [he])
    · exact ⟨_, _, _, _, _, rfl, hcounters⟩
    · rw [State.raise_frame] at hcounters ⊢
      exact ⟨_, _, _, _, _, rfl, hcounters⟩

end Telegrams

section Demand

variable {s : State}

theorem State.stopArrival_of_wheel (hworking : s.control.station.working = true) (hrole : s.role = some .wheel) :
    s.stopArrival = ({ s.zero0 with wheel := (wheelStop s.wheel).1 } : State).raised (wheelStop s.wheel).2 := by
  rw [← State.raiseAll_of_working (s := { s.zero0 with wheel := (wheelStop s.wheel).1 }) hworking, State.stopArrival, hrole]

theorem State.stopArrival_of_ret (hrole : s.role = some .ret) :
    s.stopArrival = { s.zero0 with ret := returnStop s.ret } := by
  rw [State.stopArrival, hrole]

theorem State.stopArrival_of_other (hwheel : s.role ≠ some .wheel) (hret : s.role ≠ some .ret) : s.stopArrival = s := by
  unfold State.stopArrival
  split
  · next h => exact absurd h hwheel
  · next h => exact absurd h hret
  · rfl
  · rfl

theorem State.tellAll_congr {s t : State} (h : t.control.params = s.control.params) : t.tellAll = s.tellAll := by
  unfold State.tellAll State.told
  rw [State.reportMask_congr h, State.urgencySet_congr h]

/-- The raises of a DEMAND that is taken (R165, R131, R80). -/
def State.demandRaises (s : State) (f : DemandFields) (d : DemandContent) : List Raise :=
  (clampedFields (s.role == some .ret) f d).map (fun n => (EventCode.valueClamped, n)) ++
    if d.mode = .stop ∧ s.role = some .wheel then lockLost s.wheel .off else []

/-- A DEMAND in READY and ACTIVE (R164 to R166, R122, R131, R35, R90, R145). -/
theorem State.takeDemand_of_computes (h : s.control.station.computes = true) (f : DemandFields) :
    s.takeDemand f = (let d := handleDemand s.directionBefore f
      { s.raised (s.demandRaises f d) with
        row0 := .heard .fresh 0 d
        control := { s.control with station := .active }
        ch0 := if d.mode = .stop ∧ (s.role = some .wheel ∨ s.role = some .ret) then ⟨0, 0⟩ else s.ch0
        wheel := if d.mode = .stop ∧ s.role = some .wheel then (wheelStop s.wheel).1 else s.wheel
        ret := if d.mode = .stop ∧ s.role = some .ret then returnStop s.ret else s.ret
        steer := if s.role = some .steer ∧ f.offsetReset ≠ 0 then { s.steer with resetPending := true } else s.steer }) := by
  dsimp only
  obtain ⟨d, hd⟩ : ∃ d, handleDemand s.directionBefore f = d := ⟨_, rfl⟩
  rw [hd]
  have hworking : (s.refreshRow0 d).control.station.working = true := StationState.computes_working h
  obtain ⟨l, hl⟩ : ∃ l, (clampedFields (s.role == some .ret) f d).map (fun n => (EventCode.valueClamped, n)) = l := ⟨_, rfl⟩
  obtain ⟨a, ha⟩ : ∃ a : State, a = { s.raised l with
      row0 := .heard .fresh 0 d, control := { s.control with station := .active }
      steer := if s.role = some .steer ∧ f.offsetReset ≠ 0 then { s.steer with resetPending := true } else s.steer } :=
    ⟨_, rfl⟩
  have htold : (s.refreshRow0 d).raised l = { s.raised l with row0 := .heard .fresh 0 d } := rfl
  have htaken : s.takeDemand f = if d.mode = .stop then a.stopArrival else a := by
    have hrole : (s.refreshRow0 d).role = s.role := rfl
    rw [State.takeDemand, if_pos h, hd, State.demandTaken, State.raiseAll_of_working hworking, hrole, hl, htold, ha]
    by_cases hreset : s.role = some .steer ∧ f.offsetReset ≠ 0
    · rw [if_pos hreset, if_pos hreset]
      dsimp only [State.raised_control, State.raised_steer]
    · rw [if_neg hreset, if_neg hreset]
      dsimp only [State.raised_control, State.raised_steer]
  have hrole : a.role = s.role := by rw [ha]; rfl
  have hzero (u : State) (w : Wheel) (l : List Raise) :
      ({ u.zero0 with wheel := w } : State).raised l = { u.raised l with ch0 := ⟨0, 0⟩, wheel := w } := rfl
  have hmore (u : State) (row0 : Row DemandContent) (c : Control) (hc : c.params = u.control.params) (st : Steer)
      (l : List Raise) : ({ u with row0 := row0, control := c, steer := st } : State).raised l =
        { u.raised l with row0 := row0, control := c, steer := st } := by
    rw [State.raised, State.tellAll_congr (s := u) hc]
    rfl
  have hraises : s.demandRaises f d =
      l ++ if d.mode = .stop ∧ s.role = some .wheel then lockLost s.wheel .off else [] := by rw [State.demandRaises, hl]
  rw [htaken]
  by_cases hstop : d.mode = .stop
  · rw [if_pos hstop]
    by_cases hwheel : s.role = some .wheel
    · have hwheels : a.wheel = s.wheel := by rw [ha]; rfl
      rw [State.stopArrival_of_wheel (s := a) (by rw [ha]; rfl) (by rw [hrole]; exact hwheel), hzero, hwheels, ha,
        hmore _ _ _ (by rfl), State.raised_append]
      simp [hraises, hstop, hwheel, wheelStop]
    · by_cases hret : s.role = some .ret
      · rw [State.stopArrival_of_ret (s := a) (by rw [hrole]; exact hret), ha]
        simp [hraises, hstop, hret, State.zero0]
      · rw [State.stopArrival_of_other (s := a) (by rw [hrole]; exact hwheel) (by rw [hrole]; exact hret), ha]
        simp [hraises, hwheel, hret]
  · rw [if_neg hstop, ha]
    simp [hraises, hstop]

theorem State.takeDemand_of_not_computes (h : s.control.station.computes = false) (f : DemandFields) :
    s.takeDemand f = s.refreshRow0 (handleDemand s.directionBefore f) := if_neg (by simp [h])

end Demand

/-! ### The loop over all commands -/

/-- What a DEMAND can do to the loop: nothing, or the stop of R90 with its raises told. -/
theorem State.takeDemand_wheel (s : State) (f : DemandFields) : (s.takeDemand f).wheel = s.wheel ∨
    (s.takeDemand f).wheel = (wheelStop s.wheel).1 ∧
      ∀ r ∈ (wheelStop s.wheel).2, inSet (s.takeDemand f).flags r.1 = true := by
  cases h : s.control.station.computes with
  | false =>
    rw [State.takeDemand_of_not_computes h]
    exact .inl rfl
  | true =>
    rw [State.takeDemand_of_computes h]
    dsimp only
    split
    · next hstop =>
      refine .inr ⟨rfl, fun r hr => (inSet_latchAll _ _ _).mpr (.inr ⟨r.2, List.mem_append_right _ ?_⟩)⟩
      rw [if_pos hstop]
      exact hr
    · exact .inl rfl

/-- In SETUP and CONFIG FAULT no compute runs (R31). -/
theorem State.computePoint_of_not_computes {s : State} (h : s.control.station.computes = false) :
    s.computePoint = s.stopCompute := if_neg (by simp [h])

/-- What a compute can do to the loop: nothing, or one compute of the wheel role with its raises told. -/
theorem State.computePoint_wheel (s : State) : s.computePoint.wheel = s.wheel ∨
    (s.computePoint.wheel = (wheelCompute s.atRole.wheelInput s.wheel).1 ∧
      s.computePoint.front.pairSpeed = s.atRole.wheelInput.pairSpeed ∧ s.atRole.wheelInput.params = s.control.params ∧
      ∀ r ∈ (wheelCompute s.atRole.wheelInput s.wheel).2, inSet s.computePoint.flags r.1 = true) := by
  cases h : s.control.station.computes with
  | false =>
    rw [State.computePoint_of_not_computes h]
    exact .inl rfl
  | true =>
    have hto := State.computesTo h
    by_cases hrole : s.role = some .wheel
    · obtain ⟨hwheel, -, hraises, -⟩ := s.atRole.roleStep_wheel hrole
      refine .inr ⟨hto.wheel.trans hwheel, congrArg FrontEnd.pairSpeed hto.front, rfl, fun r hr => ?_⟩
      rw [hto.flags, inSet_latchAll]
      refine .inr ⟨r.2, List.mem_append_right _ ?_⟩
      rw [hraises]
      exact List.mem_append_left _ hr
    · exact .inl (hto.wheel.trans (s.atRole.roleStep_others.1 hrole).1)

/-- R80: a compute that leaves LOCKED tells LOCK LOST. -/
theorem wheelCompute_lockLost {i : WheelInput} {w : Wheel} (h : w.loop = .locked)
    (hleft : (wheelCompute i w).1.loop ≠ .locked) : ∃ d, (EventCode.lockLost, d) ∈ (wheelCompute i w).2 := by
  rw [wheelCompute_eq] at hleft ⊢
  have hlocked : (wheelTarget i w).loop = .locked := h
  have hdriving : (wheelTarget i w).loop.driving = true := by rw [hlocked]; rfl
  by_cases hjam : Jams i (wheelTarget i w)
  · obtain ⟨-, -, -, -, -, hfew, hmany⟩ := loopMove_of_jam hdriving hjam
    rcases Nat.lt_or_ge (expireJams i (wheelTarget i w)).history.length 2 with hlt | hge
    · rw [(hfew hlt).2.2, if_pos hlocked]
      exact ⟨4, by simp⟩
    · rw [(hmany hge).2, if_pos hlocked]
      exact ⟨6, by simp⟩
  · rcases lt_or_ge 0 (wheelTarget i w).ramped with hramped | hramped
    · obtain ⟨hfar, hnear⟩ := loopMove_of_locked hjam hramped hlocked
      by_cases hf : (wheelTarget i w).Far i
      · rw [(hfar hf).1]
        exact ⟨1, by simp⟩
      · obtain ⟨-, hexits, hstays⟩ := hnear hf
        rcases Nat.lt_or_ge ((wheelTarget i w).exits i) 2 with hlt | hge
        · exact absurd (hstays hlt).1 hleft
        · rw [(hexits hge).2.2]
          exact ⟨2, by simp⟩
    · obtain ⟨-, -, -, -, -, -, hoff, hwinds⟩ := loopMove_of_wind_down hdriving hjam hramped
      by_cases hzero : (loopMove i (wheelTarget i w)).1.u = 0
      · rw [(hoff hzero).2.2.2, if_pos hlocked]
        exact ⟨0, by simp⟩
      · exact absurd ((hwinds hzero).1.trans hlocked) hleft

/-- R73: a compute switches the direction for a standing pair alone. -/
theorem wheelCompute_direction {i : WheelInput} {w : Wheel} (h : (wheelCompute i w).1.direction ≠ w.direction) :
    w.loop = .off ∧ w.ramped = 0 ∧ i.pairSpeed ≤ par i.params 29 := by
  have hdirection : (wheelCompute i w).1.direction = (settleDirection i w).1 := loopMove_direction i (wheelTarget i w)
  rw [hdirection, settleDirection_eq] at h
  by_contra hnot
  exact h (if_neg fun ⟨hramped, hoff, hpair⟩ => hnot ⟨hoff, hramped, hpair⟩)

/-! ### The rules of the whole station -/

/-- A reset leaves the reset values of the roles but for the offsets (R168, R167). -/
theorem State.restart_wheel (s : State) (straps : Straps) : (s.restart straps).wheel = Wheel.reset := by
  rw [State.restart, State.readStraps_frame]
  rfl

/-- Settles O31: each way of a command leaves what it is not about; a DEMAND leaves arbitration. -/
theorem rolesStandBetweenComputes : Obligations.RolesStandBetweenComputes := by
  intro c s t h
  cases exec_effect h with
  | idle => cases c <;> simp
  | powerOn | stillHeld | released | restart | computed => trivial
  | sampled | converted | expired | started => simp
  | outbid slot running sending =>
    rw [State.outbid_frame sending]
    simp
  | failed slot running sending =>
    rcases State.failed_cases sending with ⟨-, he⟩ | ⟨-, he⟩ <;> rw [he] <;> simp
  | sent slot running sending =>
    rcases State.sent_cases sending with ⟨n, -, he⟩ | ⟨index, -, he⟩ | he <;> rw [he] <;> simp
  | discarded => cases c <;> simp
  | clash =>
    obtain ⟨control, outbound, marker, ch0, flags, he, -⟩ := s.endTelegram.ownNumberHeard_frame
    rw [he]
    cases c <;> simp
  | heard => cases c <;> simp
  | mark | countHalt | report | countThaw | flagClear => simp
  | demand source target fields =>
    cases hcomputes : (s.heard source).control.station.computes with
    | false => rw [State.takeDemand_of_not_computes hcomputes]; simp
    | true => rw [State.takeDemand_of_computes hcomputes]; simp
  | countLoad source target index value =>
    obtain ⟨duty, outbound, he⟩ := (s.heard source).takeLoad_frame index value
    rw [he]
    simp
  | countQuery source target index =>
    obtain ⟨outbound, he⟩ := (s.heard source).takeQuery_frame index
    rw [he]
    simp
  | setup source target param value =>
    obtain ⟨control, front, duty, flags, outbound, he, -⟩ := (s.heard source).setupParam_frame param.toNat value
    rw [he]
    simp
  | setupClose => simp

/-- A command after which the loop stands differently is a reset, a compute or a DEMAND (R69). -/
theorem exec_wheel_changes {c : Instr} {s t : State} (h : exec c s = .next t) : t.wheel = s.wheel ∨
    t.wheel = Wheel.reset ∧ t.flags = 0 ∨ (c = .computePoint ∧ t = s.computePoint) ∨
    ∃ source fields, t = (s.heard source).takeDemand fields := by
  have hstands := rolesStandBetweenComputes c s t h
  cases exec_effect h with
  | powerOn => exact .inr (.inl ⟨rfl, rfl⟩)
  | released cause straps =>
    rw [State.readStraps_frame]
    exact .inr (.inl ⟨rfl, rfl⟩)
  | restart source target straps =>
    exact .inr (.inl ⟨State.restart_wheel _ _, (State.restart_eventFree _ _).flags⟩)
  | computed => exact .inr (.inr (.inl ⟨rfl, rfl⟩))
  | demand source target fields => exact .inr (.inr (.inr ⟨source, fields, rfl⟩))
  | stillHeld | idle => exact .inl rfl
  | discarded => exact .inl rfl
  | clash =>
    obtain ⟨control, outbound, marker, ch0, flags, he, -⟩ := s.endTelegram.ownNumberHeard_frame
    rw [he]
    exact .inl rfl
  | heard => simp
  | sampled | converted | expired | started | outbid | countThaw | countHalt | flagClear | countLoad | countQuery | setup
  | setupClose | failed | sent | mark | report => exact .inl hstands.1

/-- Settles O29: of the commands that move the loop, a compute and a DEMAND tell LOCK LOST. -/
theorem everyExitFromLockedIsTold : Obligations.EveryExitFromLockedIsTold := by
  intro c s t h hlocked hleft
  rcases exec_wheel_changes h with he | hreset | ⟨-, rfl⟩ | ⟨source, fields, rfl⟩
  · exact absurd (he ▸ hlocked) hleft
  · exact .inr hreset
  · rcases s.computePoint_wheel with he | ⟨he, -, -, htold⟩
    · exact absurd (he ▸ hlocked) hleft
    · obtain ⟨d, hd⟩ := wheelCompute_lockLost hlocked (he ▸ hleft)
      exact .inl (htold _ hd)
  · rcases (s.heard source).takeDemand_wheel fields with he | ⟨-, htold⟩
    · exact absurd (by rw [he, State.heard_wheel]; exact hlocked) hleft
    · have hraise : (EventCode.lockLost, (LoopState.off.code : Int)) ∈ (wheelStop (s.heard source).wheel).2 := by
        simp [wheelStop, lockLost, hlocked]
      exact .inl (htold _ hraise)

/-- Settles O30: of the commands that move the loop, a DEMAND leaves the direction, and a compute switches it for a standing
pair alone. -/
theorem reversalNeedsStandingPair : Obligations.ReversalNeedsStandingPair := by
  intro c s t h hswitch hreset
  rcases exec_wheel_changes h with he | ⟨he, -⟩ | ⟨hc, rfl⟩ | ⟨source, fields, rfl⟩
  · exact absurd (congrArg Wheel.direction he) hswitch
  · exact absurd he hreset
  · rcases s.computePoint_wheel with he | ⟨he, hpair, hparams, -⟩
    · exact absurd (congrArg Wheel.direction he) hswitch
    · obtain ⟨hoff, hramped, hstalled⟩ := wheelCompute_direction (he ▸ hswitch)
      exact ⟨hc, hoff, hramped, by rw [hpair, State.param, ← hparams]; exact hstalled⟩
  · rcases (s.heard source).takeDemand_wheel fields with he | ⟨he, -⟩
    · exact absurd (by rw [he, State.heard_wheel]) hswitch
    · exact absurd (by rw [he, State.heard_wheel]; rfl) hswitch

/-! ### The counters and the parameters -/

theorem State.takeHalt_counters (s : State) (source : Nibble) : (s.takeHalt source).duty.counters = s.duty.counters := by
  rw [State.takeHalt_duty]
  split <;> rfl

theorem State.computePoint_counters {s : State} (h : s.duty.frozen = true) :
    s.computePoint.duty.counters = s.duty.counters := by
  cases hcomputes : s.control.station.computes with
  | false => rw [State.computePoint_of_not_computes hcomputes]; rfl
  | true =>
    obtain ⟨counters, hfrozen, he⟩ := (State.computesTo hcomputes).duty
    rw [he]
    exact hfrozen h

/-- Settles O32: only COUNT LOAD, a compute while RUNNING and the power-on reset write a counter's value. -/
theorem frozenCountersOnlyLoaded : Obligations.FrozenCountersOnlyLoaded := by
  intro c s t h hfrozen hpower hrelease hload i
  suffices hcounters : t.duty.counters = s.duty.counters ∨ t.duty.counters[i] = { s.duty.counters[i] with previous := false } ∨
      (t.duty.counters[i].value = s.duty.counters[i].value ∧ t.duty.counters[i].overflow = s.duty.counters[i].overflow) by
    rcases hcounters with he | he | he
    · rw [he]
      exact ⟨rfl, rfl⟩
    · rw [he]
      exact ⟨rfl, rfl⟩
    · exact he
  cases exec_effect h with
  | powerOn cause => exact absurd rfl (hpower cause)
  | stillHeld cause straps => exact absurd rfl (hrelease cause straps)
  | released cause straps => exact absurd rfl (hrelease cause straps)
  | countLoad source target index value => exact absurd rfl (hload source target index value)
  | idle | sampled | converted | expired | started | discarded | heard | mark | report | countThaw | flagClear | setupClose =>
    exact .inl (by simp)
  | computed => exact .inl (State.computePoint_counters hfrozen)
  | outbid slot running sending => exact .inl (by rw [State.outbid_frame sending]; rfl)
  | failed slot running sending =>
    rcases State.failed_cases sending with ⟨-, he⟩ | ⟨-, he⟩
    · exact .inl (by rw [he]; simp)
    · rcases (s.emptySlot .between).failEntry_cases slot.entry with ⟨-, he'⟩ | ⟨outbound, he'⟩ <;>
        exact .inl (by rw [he, he']; rfl)
  | sent slot running sending =>
    rcases State.sent_cases sending with ⟨n, -, he⟩ | ⟨index, -, he⟩ | he <;> exact .inl (by rw [he]; simp)
  | clash =>
    obtain ⟨control, outbound, marker, ch0, flags, he, -⟩ := s.endTelegram.ownNumberHeard_frame
    exact .inl (by rw [he]; rfl)
  | countHalt source => exact .inl (by rw [State.takeHalt_counters, State.heard_duty])
  | demand source target fields =>
    refine .inl ?_
    cases hcomputes : (s.heard source).control.station.computes with
    | false => rw [State.takeDemand_of_not_computes hcomputes]; simp
    | true => rw [State.takeDemand_of_computes hcomputes]; simp
  | countQuery source target index =>
    obtain ⟨outbound, he⟩ := (s.heard source).takeQuery_frame index
    exact .inl (by rw [he]; simp)
  | setup source target param value =>
    obtain ⟨control, front, duty, flags, outbound, he, hkept⟩ := (s.heard source).setupParam_frame param.toNat value
    rw [he]
    simp only [State.heard_duty] at hkept
    exact .inr (.inr (hkept i))
  | restart source target straps =>
    refine .inr (.inl ?_)
    rw [State.restart_heard, State.restart, State.readStraps_frame]
    exact s.restarted_counter i

/-- Settles O33: of all commands SETUP alone writes the table, where the station configures; a power-on reset restores it. -/
theorem parametersChangeBySetupAlone : Obligations.ParametersChangeBySetupAlone := by
  intro c s t h hchange
  cases exec_effect h with
  | powerOn cause => exact .inl ⟨rfl, .inl ⟨cause, rfl⟩⟩
  | released cause straps reset => exact .inl ⟨State.readStraps_params _ _, .inr ⟨reset, cause, straps, rfl⟩⟩
  | setup source target param value hears reaches =>
    exact .inr ⟨((s.deliversSetup_iff source target).mp reaches).2.2, source, target, param, value, rfl⟩
  | idle | stillHeld | discarded => exact absurd rfl hchange
  | sampled | converted | expired | started | heard | mark | countHalt | report | countThaw | flagClear | setupClose =>
    exact absurd (by simp) hchange
  | computed =>
    refine absurd ?_ hchange
    cases hcomputes : s.control.station.computes with
    | false => rw [State.computePoint_of_not_computes hcomputes]; rfl
    | true => rw [(State.computesTo hcomputes).control]
  | outbid slot running sending => exact absurd (by rw [State.outbid_frame sending]; rfl) hchange
  | failed slot running sending =>
    refine absurd ?_ hchange
    rcases State.failed_cases sending with ⟨-, he⟩ | ⟨-, he⟩ <;> rw [he] <;> simp
  | sent slot running sending =>
    refine absurd ?_ hchange
    rcases State.sent_cases sending with ⟨n, -, he⟩ | ⟨index, -, he⟩ | he <;> rw [he] <;> simp
  | clash =>
    obtain ⟨control, outbound, marker, ch0, flags, he, hparams⟩ := s.endTelegram.ownNumberHeard_frame
    exact absurd (by rw [he]; exact hparams) hchange
  | demand source target fields =>
    refine absurd ?_ hchange
    cases hcomputes : (s.heard source).control.station.computes with
    | false => rw [State.takeDemand_of_not_computes hcomputes]; simp
    | true => rw [State.takeDemand_of_computes hcomputes]; simp
  | countLoad source target index value =>
    obtain ⟨duty, outbound, he⟩ := (s.heard source).takeLoad_frame index value
    exact absurd (by rw [he]; simp) hchange
  | countQuery source target index =>
    obtain ⟨outbound, he⟩ := (s.heard source).takeQuery_frame index
    exact absurd (by rw [he]; simp) hchange
  | restart source target straps => exact absurd (by rw [State.restart_params, State.heard_control]) hchange

/-! ### CLASH and STRAP FAULT -/

/-- Telegrams but RESTART reach their block in the working states alone (R18). -/
theorem State.not_delivered {s : State} (h : s.control.station.working = false) (source target : Nibble) :
    s.deliversStation source target = false ∧ s.deliversCabin source target = false ∧
      s.deliversSetup source target = false := by
  have hconfigures : s.control.station.configures = false := by
    cases hstation : s.control.station <;> rw [hstation] at h <;> first | rfl | exact absurd h nofun
  simp [State.deliversStation, State.deliversCabin, State.deliversSetup, h, hconfigures]

/-- What a command can still make of a running station in CLASH or STRAP FAULT, both of its timers stopped (R18, R19). -/
inductive StillEffect (s : State) : Instr → State → Prop
  | idle (c : Instr) : StillEffect s c s
  | powerOn (cause : ResetCause) : StillEffect s (.powerOnReset cause) (s.powerOn (s.hold.begin cause))
  | sampled (c : Instr) (input : PulseInput) (level : Level) : StillEffect s c (s.samplePulse input level)
  | converted (c : Instr) (input : Fin 4) (raw : BitVec 12) : StillEffect s c (s.convert input raw)
  | started (c : Instr) : StillEffect s c s.tryStart
  | outbid (c : Instr) (slot : Slot) (sending : s.line.slot = some slot) : StillEffect s c s.outbid
  | failed (c : Instr) (slot : Slot) (sending : s.line.slot = some slot) : StillEffect s c s.failed
  | sent (c : Instr) (slot : Slot) (sending : s.line.slot = some slot) : StillEffect s c s.sent
  | discarded (c : Instr) : StillEffect s c s.endTelegram
  | clash (c : Instr) : StillEffect s c s.endTelegram.ownNumberHeard
  | heard (c : Instr) (source : Nibble) : StillEffect s c (s.heard source)
  | restart (source target : Nibble) (straps : Straps) (reaches : s.deliversRestart source target = true) :
      StillEffect s (.restart source target straps) ((s.heard source).restart straps)

theorem Effect.still {s t : State} {c : Instr} (h : Effect s c t) (running : s.inReset = false)
    (hworking : s.control.station.working = false) (hperiod : s.marker.periodTimer = none)
    (hcompute : s.marker.computeTimer = none) : StillEffect s c t := by
  have hnever (source target : Nibble) := State.not_delivered hworking source target
  cases h with
  | idle => exact .idle c
  | powerOn cause => exact .powerOn cause
  | stillHeld cause straps reset | released cause straps reset => exact absurd (running.symm.trans reset) nofun
  | sampled input level => exact .sampled _ input level
  | converted input raw => exact .converted _ input raw
  | expired _ timer => exact absurd (hperiod ▸ timer) nofun
  | computed _ timer => exact absurd (hcompute ▸ timer) nofun
  | started => exact .started _
  | outbid slot _ sending => exact .outbid _ slot sending
  | failed slot _ sending => exact .failed _ slot sending
  | sent slot _ sending => exact .sent _ slot sending
  | discarded => exact .discarded c
  | clash => exact .clash c
  | heard _ source => exact .heard c source
  | mark source target _ _ reaches | countHalt source target _ _ reaches | report source target _ _ reaches =>
    exact absurd ((hnever source target).1.symm.trans reaches) nofun
  | countThaw source target _ reaches | demand source target _ _ reaches | flagClear source target _ _ reaches
  | countLoad source target _ _ _ reaches | countQuery source target _ _ reaches =>
    exact absurd ((hnever source target).2.1.symm.trans reaches) nofun
  | setup source target _ _ _ reaches | setupClose source target _ reaches =>
    exact absurd ((hnever source target).2.2.symm.trans reaches) nofun
  | restart source target straps _ reaches => exact .restart source target straps reaches

theorem State.ownNumberHeard_of_clash {s : State} (h : s.control.station = .clash) : s.ownNumberHeard = s.clashAgain := by
  rw [State.ownNumberHeard, h]
  rfl

theorem State.ownNumberHeard_of_strapFault {s : State} (h : s.control.station = .strapFault) : s.ownNumberHeard = s := by
  rw [State.ownNumberHeard, h]
  rfl

/-- An entry that is a NOTICE changes list and line alone when its attempt ends (R8, R9). -/
theorem State.outcome_of_notice {s : State} {slot : Slot} (h : s.line.slot = some slot) {code : EventCode}
    (hkey : slot.entry.content.key = .notice code) :
    (∃ outbound, s.failed = { s.emptySlot .between with outbound := outbound }) ∧ s.sent = s.emptySlot .between := by
  constructor
  · rcases State.failed_cases h with ⟨⟨n, hmark⟩, -⟩ | ⟨-, he⟩
    · exact absurd (hkey.symm.trans (congrArg Content.key hmark)) nofun
    · rcases (s.emptySlot .between).failEntry_cases slot.entry with ⟨⟨index, hhalt⟩, -⟩ | ⟨outbound, he'⟩
      · exact absurd (hkey.symm.trans (congrArg Content.key hhalt)) nofun
      · exact ⟨outbound, he.trans he'⟩
  · rcases State.sent_cases h with ⟨n, hmark, -⟩ | ⟨index, hhalt, -⟩ | he
    · exact absurd (hkey.symm.trans (congrArg Content.key hmark)) nofun
    · exact absurd (hkey.symm.trans (congrArg Content.key hhalt)) nofun
    · exact he

/-- Settles O34: of what can still happen, only the inputs, the line, the list and the flags move. -/
theorem clashStandsUntilReset : Obligations.ClashStandsUntilReset := by
  intro c s t h hclash running hpower hrestart hnotice hperiod hcompute
  cases (exec_effect h).still running (by rw [hclash]; rfl) hperiod hcompute with
  | idle | sampled | converted | started | discarded | heard => simp
  | powerOn cause => exact absurd rfl (hpower cause)
  | restart source target straps => exact absurd rfl (hrestart source target straps)
  | outbid _ slot sending =>
    rw [State.outbid_frame sending]
    simp
  | failed _ slot sending =>
    obtain ⟨⟨outbound, he⟩, -⟩ := State.outcome_of_notice sending (hnotice slot sending)
    rw [he]
    simp
  | sent _ slot sending =>
    rw [(State.outcome_of_notice sending (hnotice slot sending)).2]
    simp
  | clash =>
    rw [State.ownNumberHeard_of_clash (s := s.endTelegram) hclash]
    simp

theorem State.tryStart_of_empty {s : State} (h : s.outbound.entries = []) : s.tryStart = s := by
  unfold State.tryStart State.loadSlot
  rw [h]
  exact ite_self s

/-- A STRAP FAULT station drives code 0 (R37, R159). -/
theorem State.outputCodes_of_strapFault {s : State} (h : s.control.station = .strapFault) :
    s.outputCode0 = 0 ∧ s.outputCode1 = 0 := by
  unfold State.outputCode0 State.outputCode1
  rw [h]
  exact ⟨ite_self 0, ite_self 0⟩

/-- Settles O35: with nothing in slot or list, only the inputs and the line health move. -/
theorem strapFaultStaysSilent : Obligations.StrapFaultStaysSilent := by
  intro c s t h hfault running hslot hlist hperiod hcompute hpower hrestart
  suffices hframe : t = { s with line := t.line, front := t.front } ∧ t.line.slot = none by
    have hstation : t.control.station = .strapFault := by rw [hframe.1]; exact hfault
    exact ⟨hframe.1, hframe.2, State.outputCodes_of_strapFault hstation⟩
  cases (exec_effect h).still running (by rw [hfault]; rfl) hperiod hcompute with
  | idle => exact ⟨rfl, hslot⟩
  | powerOn cause => exact absurd rfl (hpower cause)
  | sampled _ input level => cases input <;> exact ⟨rfl, hslot⟩
  | converted => exact ⟨rfl, hslot⟩
  | started =>
    rw [State.tryStart_of_empty hlist]
    exact ⟨rfl, hslot⟩
  | outbid _ slot sending | failed _ slot sending | sent _ slot sending =>
    exact absurd (hslot.symm.trans sending) nofun
  | discarded => exact ⟨rfl, hslot⟩
  | clash =>
    rw [State.ownNumberHeard_of_strapFault (s := s.endTelegram) hfault]
    exact ⟨rfl, hslot⟩
  | heard _ source =>
    rw [s.heard_frame source]
    exact ⟨rfl, (s.heard_slot source).trans hslot⟩
  | restart source target straps reaches =>
    obtain ⟨rfl, -, -, htarget⟩ := (s.deliversRestart_iff source target).mp reaches
    exact absurd (by rw [htarget hfault]) (hrestart straps)

end Sys2Proof.Machine

/-! ## Telegrams of the station and of the cabin

The settlements of O22, O25, O26, O27 and O28: what a REPORT, a FLAG CLEAR, a SETUP, a SETUP CLOSE and a DEMAND do where
they reach their block. -/

namespace Sys2Proof.Machine

/-! ### REPORT -/

/-- A station's number as the row it refreshes. -/
theorem nibble_station {n : Nibble} (h : n ≠ 0 ∧ n ≠ 15) : 1 ≤ n.toNat ∧ n.toNat ≤ 14 := by
  obtain ⟨hzero, hall⟩ := h
  bv_omega

/-- Settles O22: the row is refreshed whole; only a follower of the source adopts. -/
theorem reportRefreshesRow : Obligations.ReportRefreshesRow := by
  intro source target r s h hformed
  obtain ⟨hzero, hall, -⟩ := h.source
  have hsource := nibble_station ⟨hzero, hall⟩
  have hexec : exec (.report source target r) s = .next (s.afterHearing.takeReport source.toNat r) :=
    (exec_report_of_wellFormed hformed source target s).trans (congrArg _ (h.receive _))
  have hframe : s.afterHearing.takeReport source.toNat r = { s.afterHearing.refreshRow source.toNat r with
      arb := if s.role = some .wheel then arbAdopt s.control.params source.toNat r s.arb else s.arb } := by
    unfold State.takeReport
    by_cases hrole : s.role = some .wheel
    · have hrole' : s.afterHearing.role = some .wheel := hrole
      rw [if_pos hrole, if_pos hrole']
      rfl
    · have hrole' : s.afterHearing.role ≠ some .wheel := hrole
      rw [if_neg hrole, if_neg hrole']
      rfl
  refine ⟨_, hexec, ?_⟩
  rw [hframe]
  refine ⟨rfl, State.refreshRow_row_same _ r hsource, fun k hk => State.refreshRow_row_other _ r hsource.1 hk, fun hstands => ?_,
    fun p hrole hfollower hleader hpart => ?_⟩
  · dsimp only
    split
    · next hrole =>
      unfold arbAdopt
      split
      · next p hpart =>
        refine if_neg fun ⟨hfollower, hleader⟩ => ?_
        rcases hstands with hno | hno | hno | hno
        · exact hno hrole
        · exact hno hfollower
        · exact hno hleader
        · exact hno p hpart
      · rfl
    · rfl
  · have hadopts : arbAdopt s.control.params source.toNat r s.arb = { s.arb with
        inEffect := clamp (-(s.param 42)) (s.param 42) p.inEffect.toInt, mode := ArbMode.ofCode p.mode } := by
      rw [arbAdopt, hpart]
      exact if_pos ⟨hfollower, hleader⟩
    dsimp only
    rw [if_pos hrole, hadopts]
    exact ⟨rfl, fun hm => by rw [hm]; rfl, fun hm => by rw [hm]; rfl, fun hm => by rw [hm]; rfl⟩

/-! ### FLAG CLEAR -/

theorem State.receive_undelivered {s : State} {source : Nibble} {delivered : Bool} {act : State → State}
    (hreceives : s.receives = true) (hdelivered : delivered = false)
    (hclash : ¬ (s.control.station.watches = true ∧ source = s.number)) :
    s.receive source delivered act = s.endTelegram.heardFrom source := by
  rcases s.receive_cases source delivered act with ⟨hr, -⟩ | ⟨-, hw, hn, -⟩ | ⟨-, -, hd, -⟩ | ⟨-, -, -, he⟩
  · exact absurd (hr.symm.trans hreceives) nofun
  · exact absurd ⟨hw, hn⟩ hclash
  · exact absurd (hdelivered.symm.trans hd) nofun
  · exact he

theorem mem_usedInputs (role : Option Role) (i : Fin 4) : i ∈ usedInputs role ↔
    role = some .steer ∨ (role = some .wheel ∧ i = 0) ∨ (role = some .ret ∧ i ≠ 3) := by
  revert i
  cases role with
  | none => simp [usedInputs]
  | some role => cases role <;> decide

/-- Settles O25: a named flag stands where its condition of R170 holds. -/
theorem flagClearKeepsHeldConditions : Obligations.FlagClearKeepsHeldConditions := by
  unfold Obligations.FlagClearKeepsHeldConditions
  dsimp only
  refine ⟨fun target codes s h => ?_, fun target codes s running hslot => ⟨fun hclash hnumber => ?_, fun hfault => ?_⟩⟩
  · have hexec : exec (.flagClear 0 target codes) s = .next (s.afterHearing.clearFlags codes) := congrArg _ (h.receive _)
    refine ⟨_, hexec, rfl, fun c => ?_⟩
    rw [State.inSet_clearFlags]
    have hholds : s.afterHearing.levelHolds c = s.levelHolds c := by cases c <;> rfl
    rw [hholds, Bool.and_eq_true, Bool.or_eq_true, Bool.not_eq_true', ← Bool.not_eq_true, ← imp_iff_not_or]
    refine and_congr Iff.rfl (imp_congr Iff.rfl ?_)
    cases c with
    | sensorFault => simp only [State.levelHolds, List.any_eq_true, beq_iff_eq, mem_usedInputs, and_comm]
    | encoderFault => simp only [State.levelHolds, Option.isSome_iff_ne_none]
    | wheelFaulted | tiltDisagree | flapStuck | returnLimited | returnBlocked | cavitation | stationClash =>
      simp [State.levelHolds]
    | lockGained | lockLost | wheelJam | depthJump | peerLost | valueClamped | markIrregular => simp [State.levelHolds]
  · have hworking : s.control.station.working = false := by rw [hclash]; rfl
    have hreceives := State.receives_of running (by rw [hclash]; exact nofun) hslot
    refine congrArg _ ((State.receive_undelivered hreceives (State.not_delivered hworking 0 target).2.1 fun h => ?_).trans
      (s.heardFrom_other hnumber.symm))
    exact hnumber h.2.symm
  · have hworking : s.control.station.working = false := by rw [hfault]; rfl
    have hreceives := State.receives_of running (by rw [hfault]; exact nofun) hslot
    refine congrArg _ ((State.receive_undelivered hreceives (State.not_delivered hworking 0 target).2.1 fun h => ?_).trans ?_)
    · rw [hfault] at h
      exact absurd h.1 nofun
    · split
      · next hzero => exact if_pos hzero.symm
      · next hnumber => exact s.heardFrom_other (Ne.symm hnumber)

/-! ### SETUP CLOSE -/

/-- The first number of a run on which a test fails, by the list of the tests. -/
theorem find?_range'_not (f : Nat → Bool) (a n : Nat) :
    (List.range' a n).find? (fun k => !f k) =
      if ∀ b ∈ (List.range' a n).map f, b = true then none
      else some (((List.range' a n).map f).findIdx (fun b => !b) + a) := by
  induction n generalizing a with
  | zero => rfl
  | succ n ih =>
    rw [List.range'_succ, List.find?_cons, List.map_cons, List.findIdx_cons, ih]
    cases hf : f a with
    | false => simp
    | true =>
      simp only [List.forall_mem_cons, true_and, Bool.not_true, cond_false]
      split
      · rfl
      · rw [Nat.add_right_comm, Nat.add_assoc]

/-- R162: the checks as the statement lists them. -/
theorem State.firstFailing_eq (s : State) : s.firstFailing =
    (let checks : List Bool :=
      [s.param 2 < s.param 1, s.param 36 < s.param 35, s.param 23 ≤ s.param 22, s.param 55 ≤ s.param 56,
       s.param 12 ≠ s.param 13, s.role = some .wheel ∨ s.param 14 ≠ s.param 15, s.role = some .wheel ∨ s.param 16 ≠ s.param 17,
       s.role ≠ some .steer ∨ s.param 18 ≠ s.param 19]
    if ∀ b ∈ checks, b = true then none else some (checks.findIdx (fun b => !b) + 1)) := by
  have hchecks : (List.range' 1 8).map s.checkPasses =
      [decide (s.param 2 < s.param 1), decide (s.param 36 < s.param 35), decide (s.param 23 ≤ s.param 22),
       decide (s.param 55 ≤ s.param 56), decide (s.param 12 ≠ s.param 13),
       decide (s.role = some .wheel ∨ s.param 14 ≠ s.param 15), decide (s.role = some .wheel ∨ s.param 16 ≠ s.param 17),
       decide (s.role ≠ some .steer ∨ s.param 18 ≠ s.param 19)] := by
    simp [List.range', State.checkPasses, Bool.or_comm]
  have hfirst := find?_range'_not s.checkPasses 1 8
  rw [hchecks] at hfirst
  exact hfirst

/-- Settles O27: the validation is that of the station that has heard, and reads station control alone. -/
theorem setupCloseValidates : Obligations.SetupCloseValidates := by
  intro target s h hconfigures checks
  have hexec : exec (.setupClose 0 target) s = .next s.afterHearing.validate := congrArg _ (h.receive_setup hconfigures _)
  have hfirst : s.afterHearing.firstFailing =
      if ∀ b ∈ checks, b = true then none else some (checks.findIdx (fun b => !b) + 1) := s.afterHearing.firstFailing_eq
  rw [hexec, State.validate, hfirst]
  refine ⟨fun hall => ?_, fun ⟨b, hb, hfails⟩ => ?_⟩
  · rw [if_pos hall]
    rfl
  · rw [if_neg fun hall => Bool.false_ne_true (hfails.symm.trans (hall b hb))]
    rfl

/-! ### SETUP -/

/-- The rings shrink where P11 is stored (R58). -/
theorem State.stored_front (s : State) (n : Nat) : (s.stored n).front = if n = 11 then
    { s.front with
      pulse1 := { s.front.pulse1 with ring := newest (parN s.control.params 11) s.front.pulse1.ring }
      pulse2 := { s.front.pulse2 with ring := newest (parN s.control.params 11) s.front.pulse2.ring } }
    else s.front := by
  unfold State.stored
  split
  · rfl
  · split <;> rfl

/-- The counter whose parameter is stored takes a false previous condition (R149). -/
theorem State.stored_duty (s : State) {n : Nat} (hn : n ≤ 73) :
    (s.stored n).duty = { s.duty with counters := (s.stored n).duty.counters } ∧
    ∀ i : Fin 4, (s.stored n).duty.counters[i] =
      if 62 ≤ n ∧ (n - 62) / 3 = i.val then { s.duty.counters[i] with previous := false } else s.duty.counters[i] := by
  unfold State.stored
  split
  · next h11 => exact ⟨rfl, fun i => (if_neg (by omega)).symm⟩
  · cases hcounter : counterOf n with
    | none =>
      have hlow : ¬ 62 ≤ n := fun h62 => by simp [counterOf, h62, hn] at hcounter
      exact ⟨rfl, fun i => (if_neg fun h => hlow h.1).symm⟩
    | some j =>
      have hj : 62 ≤ n ∧ (n - 62) / 3 = j.val := by
        unfold counterOf at hcounter
        split at hcounter
        · next h => exact ⟨h.1, congrArg Fin.val (Option.some.inj hcounter)⟩
        · exact absurd hcounter nofun
      refine ⟨rfl, fun i => ?_⟩
      by_cases hij : i = j
      · subst hij
        refine Eq.trans ?_ (if_pos hj).symm
        simp [Duty.update, Counter.restarted]
      · have hother : ¬ (62 ≤ n ∧ (n - 62) / 3 = i.val) := fun h => hij (Fin.ext (h.2.symm.trans hj.2))
        exact (Duty.update_other _ hij _).trans (if_neg hother).symm

theorem State.stored_rest (s : State) (n : Nat) :
    s.stored n = { s with front := (s.stored n).front, duty := (s.stored n).duty } := by
  obtain ⟨front, duty, he, -⟩ := s.stored_frame n
  rw [he]

/-- Every row of the table has a least value up to its greatest (R161). -/
theorem paramRow_ordered {n : Nat} {row : ParamRow} (h : paramRow n = some row) : row.lo ≤ row.hi := by
  have hall : ∀ r ∈ paramRows, r.lo ≤ r.hi := by decide
  unfold paramRow at h
  split at h
  · exact absurd h nofun
  · exact hall row (List.mem_of_getElem? h)

/-- SETUP of a known parameter, before what storing does beside the table (R161). -/
def State.settled (s : State) (n : Nat) (raw v : Int) : State :=
  { s.raised (if v = raw then [] else [(.valueClamped, (n : Int))]) with
    control := { s.control with
      params := setPar s.control.params n v, setupCount := if s.control.station = .setup then 0 else s.control.setupCount } }

theorem State.setupParam_of_row {s : State} (h : s.control.station.working = true) {n : Nat} {row : ParamRow}
    (hrow : paramRow n = some row) (value : Half) : s.setupParam n value =
      (s.settled n (setupValue n value) (clamp row.lo row.hi (setupValue n value))).stored n := by
  unfold State.setupParam State.settled
  rw [hrow]
  dsimp only
  split
  · rfl
  · rw [State.raise_of_working h (.valueClamped, (n : Int))]
    rfl

/-- Settles O26: the table takes the clamped value; the raise, the rings and the counter are told apart. -/
theorem setupStoresParameter : Obligations.SetupStoresParameter := by
  intro target p value s h hconfigures
  have hexec : exec (.setup 0 target p value) s = .next (s.afterHearing.setupParam p.toNat value) :=
    congrArg _ (h.receive_setup hconfigures _)
  refine ⟨fun hnone => ?unknown, fun row hrow => ?known⟩
  case unknown =>
    rw [hexec, State.setupParam, hnone]
  case known =>
    intro raw v told
    have hbounds := (paramRow_isSome_iff p.toNat).mp (by rw [hrow]; rfl)
    have hraw : setupValue p.toNat value = raw := by
      have hcode (k : Nat) (hk : k < 256) : p.toNat = k ↔ p = BitVec.ofNat 8 k := by
        rw [← BitVec.toNat_inj, BitVec.toNat_ofNat, Nat.mod_eq_of_lt hk]
      exact if_congr (or_congr (hcode 4 (by decide)) (or_congr (hcode 5 (by decide)) (hcode 53 (by decide)))) rfl rfl
    have hv : clamp row.lo row.hi raw = v := clamp_eq_max_min (paramRow_ordered hrow) raw
    rw [State.setupParam_of_row (s := s.afterHearing) h.working hrow, hraw, hv] at hexec
    obtain ⟨u, hu⟩ : ∃ u, s.afterHearing.settled p.toNat raw v = u := ⟨_, rfl⟩
    rw [hu] at hexec
    have hrest := u.stored_rest p.toNat
    have hfront := u.stored_front p.toNat
    obtain ⟨hduty, hcounters⟩ := u.stored_duty hbounds.2
    have hcontrol : (u.stored p.toNat).control = { s.control with
        params := setPar s.control.params p.toNat v
        setupCount := if s.control.station = .setup then 0 else s.control.setupCount } := by
      rw [hrest, ← hu]
      rfl
    have hstored : par (u.stored p.toNat).control.params p.toNat = v := by
      rw [hcontrol]
      exact par_setPar_same _ v hbounds
    have hraised : u = { s.afterHearing.raised (if v = raw then [] else [(.valueClamped, (p.toNat : Int))]) with
        control := u.control } := by rw [← hu]; rfl
    have hflags : (u.stored p.toNat).flags = latchAll s.flags (if v = raw then [] else [(.valueClamped, (p.toNat : Int))]) := by
      rw [hrest, ← hu]
      rfl
    have houtbound : (u.stored p.toNat).outbound =
        s.tellAll s.marker.count (if v = raw then [] else [(.valueClamped, (p.toNat : Int))]) s.outbound := by
      rw [hrest, ← hu]
      rfl
    refine ⟨_, hexec, ?frame, ?control, hstored, ?others, ?flags, ?untold, ?told, ?rings, ?duty, ?counters⟩
    case frame =>
      rw [hrest, hraised]
      rfl
    case control => rw [hcontrol]
    case others =>
      intro m hm hne
      rw [hcontrol]
      exact par_setPar_other _ v hbounds.1 hm hne
    case flags =>
      rw [hflags]
      split <;> rfl
    case untold =>
      intro huntold
      rw [houtbound]
      split
      · rfl
      · next hne => exact if_neg fun hmask => huntold ⟨hne, hmask⟩
    case told =>
      rintro ⟨hne, hmask⟩
      rw [houtbound, if_neg hne]
      exact (if_pos hmask).trans (by rw [BitVec.ofInt_natCast])
    case rings =>
      have hufront : u.front = s.front := by rw [← hu]; rfl
      have huparams : u.control.params = (u.stored p.toNat).control.params := by rw [hrest]
      rw [hfront, hufront, huparams]
      by_cases h11 : p = 11
      · have hn : p.toNat = 11 := by rw [h11]; rfl
        have hwindow : parN (u.stored p.toNat).control.params 11 = v.toNat := by
          rw [← hstored, hn]
          rfl
        rw [if_pos h11, if_pos hn, hwindow]
        rfl
      · have hn : p.toNat ≠ 11 := fun hn => h11 (BitVec.eq_of_toNat_eq hn)
        rw [if_neg h11, if_neg hn]
    case duty =>
      rw [hduty, ← hu]
      rfl
    case counters =>
      rw [← hu] at hcounters ⊢
      exact hcounters

/-! ### DEMAND -/

theorem clamp_eq_self_of_between {lo hi v : Int} (h : lo ≤ hi) : clamp lo hi v ≠ v ↔ v < lo ∨ hi < v := by
  rw [Ne, clamp_eq_self_iff h]
  unfold within
  omega

/-- The fields that a DEMAND has handled, by the ranges of R165 and the least limit of R131. -/
theorem clampedFields_eq (ret : Bool) (before : Direction) (f : DemandFields) :
    let d := handleDemand before f
    clampedFields ret f d =
      (if 3 < f.mode.toNat then [1] else []) ++ (if 1 < f.direction.toNat then [2] else []) ++
      (if 999 < f.baseSpeed.toNat then [3] else []) ++
      (if f.targetX.toInt < -32000 ∨ 32000 < f.targetX.toInt then [4] else []) ++
      (if f.targetY.toInt < -32000 ∨ 32000 < f.targetY.toInt then [5] else []) ++
      (if 30000 < f.depth.toNat then [6] else []) ++ (if 2000 < f.rate.toNat then [7] else []) ++
      (if f.densityLimit.toNat < 1100 ∨ 1500 < f.densityLimit.toNat then [8] else []) ++
      (if ret = true ∧ d.densityLimit < d.freshDensity + 20 then [8] else []) ++
      (if f.freshDensity.toNat < 1000 ∨ 1300 < f.freshDensity.toNat then [9] else []) := by
  intro d
  have hbase : d.baseSpeed ≠ f.baseSpeed.toNat ↔ 999 < f.baseSpeed.toNat :=
    (clamp_eq_self_of_between (lo := 0) (hi := 999) (v := f.baseSpeed.toNat) (by omega)).trans (by omega)
  have hx : d.targetX ≠ f.targetX.toInt ↔ f.targetX.toInt < -32000 ∨ 32000 < f.targetX.toInt :=
    clamp_eq_self_of_between (lo := -32000) (hi := 32000) (v := f.targetX.toInt) (by omega)
  have hy : d.targetY ≠ f.targetY.toInt ↔ f.targetY.toInt < -32000 ∨ 32000 < f.targetY.toInt :=
    clamp_eq_self_of_between (lo := -32000) (hi := 32000) (v := f.targetY.toInt) (by omega)
  have hdepth : d.depth ≠ f.depth.toNat ↔ 30000 < f.depth.toNat :=
    (clamp_eq_self_of_between (lo := 0) (hi := 30000) (v := f.depth.toNat) (by omega)).trans (by omega)
  have hrate : d.rate ≠ f.rate.toNat ↔ 2000 < f.rate.toNat :=
    (clamp_eq_self_of_between (lo := 0) (hi := 2000) (v := f.rate.toNat) (by omega)).trans (by omega)
  have hlimit : d.densityLimit ≠ f.densityLimit.toNat ↔ f.densityLimit.toNat < 1100 ∨ 1500 < f.densityLimit.toNat :=
by
    have he : d.densityLimit = clamp 1100 1500 f.densityLimit.toNat := by simp only [d, handleDemand]
    rw [he, clamp_eq_self_of_between (by omega)]
    omega
  have hfresh : d.freshDensity ≠ f.freshDensity.toNat ↔ f.freshDensity.toNat < 1000 ∨ 1300 < f.freshDensity.toNat :=
by
    have he : d.freshDensity = clamp 1000 1300 f.freshDensity.toNat := by simp only [d, handleDemand]
    rw [he, clamp_eq_self_of_between (by omega)]
    omega
  have hlow : (ret ∧ limitTooLow d) ↔ (ret = true ∧ d.densityLimit < d.freshDensity + 20) := by simp [limitTooLow]
  unfold clampedFields
  simp only [hbase, hx, hy, hdepth, hrate, hlimit, hfresh, hlow]

theorem clampedFields_ne_nil (role : Option Role) (before : Direction) (f : DemandFields) :
    let d := handleDemand before f
    clampedFields (role == some .ret) f d ≠ [] ↔
      3 < f.mode.toNat ∨ 1 < f.direction.toNat ∨ 999 < f.baseSpeed.toNat ∨
        f.targetX.toInt < -32000 ∨ 32000 < f.targetX.toInt ∨ f.targetY.toInt < -32000 ∨ 32000 < f.targetY.toInt ∨
        30000 < f.depth.toNat ∨ 2000 < f.rate.toNat ∨ f.densityLimit.toNat < 1100 ∨ 1500 < f.densityLimit.toNat ∨
        f.freshDensity.toNat < 1000 ∨ 1300 < f.freshDensity.toNat ∨
        (role = some .ret ∧ d.densityLimit < d.freshDensity + 20) := by
  have hif (p : Prop) [Decidable p] (n : Int) : (if p then [n] else []) ≠ [] ↔ p := by by_cases h : p <;> simp [h]
  have happend (l m : List Int) : l ++ m ≠ [] ↔ l ≠ [] ∨ m ≠ [] := by
    rw [Ne, List.append_eq_nil_iff, not_and_or]
  dsimp only
  rw [clampedFields_eq]
  simp only [happend, hif, beq_iff_eq, or_assoc]
  rw [or_rotate (a := role = some .ret ∧ _)]

/-- The details of VALUE CLAMPED as a NOTICE carries them. -/
theorem clampedFields_halves (role : Option Role) (before : Direction) (f : DemandFields) :
    let d := handleDemand before f
    (clampedFields (role == some .ret) f d).map (BitVec.ofInt 16) =
      (if 3 < f.mode.toNat then [1] else []) ++ (if 1 < f.direction.toNat then [2] else []) ++
      (if 999 < f.baseSpeed.toNat then [3] else []) ++
      (if f.targetX.toInt < -32000 ∨ 32000 < f.targetX.toInt then [4] else []) ++
      (if f.targetY.toInt < -32000 ∨ 32000 < f.targetY.toInt then [5] else []) ++
      (if 30000 < f.depth.toNat then [6] else []) ++ (if 2000 < f.rate.toNat then [7] else []) ++
      (if f.densityLimit.toNat < 1100 ∨ 1500 < f.densityLimit.toNat then [8] else []) ++
      (if role = some .ret ∧ d.densityLimit < d.freshDensity + 20 then [8] else []) ++
      (if f.freshDensity.toNat < 1000 ∨ 1300 < f.freshDensity.toNat then [9] else []) := by
  have hif (p : Prop) [Decidable p] (n : Int) :
      (if p then [n] else []).map (BitVec.ofInt 16) = if p then [BitVec.ofInt 16 n] else [] := by split <;> rfl
  dsimp only
  rw [clampedFields_eq]
  simp only [List.map_append, hif, beq_iff_eq]
  rfl

/-- R165: the handled fields in the words of the statement. -/
theorem handleDemand_eq (before : Direction) (f : DemandFields) : handleDemand before f =
    { mode := match f.mode.toNat with | 0 => .cut | 1 => .hold | 2 => .lift | 3 => .stop | _ => .hold
      direction := match f.direction.toNat with | 0 => .forward | 1 => .reverse | _ => before
      baseSpeed := (min 999 f.baseSpeed.toNat : Nat)
      targetX := max (-32000) (min 32000 f.targetX.toInt)
      targetY := max (-32000) (min 32000 f.targetY.toInt)
      depth := (min 30000 f.depth.toNat : Nat)
      rate := (min 2000 f.rate.toNat : Nat)
      densityLimit := (max 1100 (min 1500 f.densityLimit.toNat) : Nat)
      freshDensity := (max 1000 (min 1300 f.freshDensity.toNat) : Nat) } := by
  have hmode (m : Byte) : (if m = 0 then Mode.cut else if m = 1 then .hold else if m = 2 then .lift
      else if m = 3 then .stop else .hold) =
      match m.toNat with | 0 => .cut | 1 => .hold | 2 => .lift | 3 => .stop | _ => .hold := by
    have hcode (k : Nat) (hk : k < 256) : m = BitVec.ofNat 8 k ↔ m.toNat = k := by
      rw [← BitVec.toNat_inj, BitVec.toNat_ofNat, Nat.mod_eq_of_lt hk]
    split_ifs with h0 h1 h2 h3
    · rw [h0]; rfl
    · rw [h1]; rfl
    · rw [h2]; rfl
    · rw [h3]; rfl
    · split
      · next h => exact absurd ((hcode 0 (by decide)).mpr h) h0
      · rfl
      · next h => exact absurd ((hcode 2 (by decide)).mpr h) h2
      · next h => exact absurd ((hcode 3 (by decide)).mpr h) h3
      · rfl
  have hdirection (c : Byte) : (if c = 0 then Direction.forward else if c = 1 then .reverse else before) =
      match c.toNat with | 0 => .forward | 1 => .reverse | _ => before := by
    have hcode (k : Nat) (hk : k < 256) : c = BitVec.ofNat 8 k ↔ c.toNat = k := by
      rw [← BitVec.toNat_inj, BitVec.toNat_ofNat, Nat.mod_eq_of_lt hk]
    split_ifs with h0 h1
    · rw [h0]; rfl
    · rw [h1]; rfl
    · split
      · next h => exact absurd ((hcode 0 (by decide)).mpr h) h0
      · next h => exact absurd ((hcode 1 (by decide)).mpr h) h1
      · rfl
  have hnat (lo hi n : Nat) (h : lo ≤ hi) : clamp lo hi n = (max lo (min hi n) : Nat) := by
    rw [clamp_eq_max_min (by omega)]
    push_cast
    rfl
  have hzero (hi n : Nat) : clamp 0 hi n = (min hi n : Nat) := (hnat 0 hi n (by omega)).trans (by simp)
  unfold handleDemand
  rw [hmode, hdirection, clamp_eq_max_min (lo := -32000) (hi := 32000) (by omega),
    clamp_eq_max_min (lo := -32000) (hi := 32000) (by omega)]
  simp only [DemandContent.mk.injEq, true_and]
  exact ⟨hzero 999 _, hzero 30000 _, hzero 2000 _, hnat 1100 1500 _ (by omega), hnat 1000 1300 _ (by omega)⟩

/-- A DEMAND tells of VALUE CLAMPED and of LOCK LOST alone (R165, R80). -/
theorem State.demandRaises_codes (s : State) {f : DemandFields} {d : DemandContent} {r : Raise}
    (h : r ∈ s.demandRaises f d) : r.1 = .valueClamped ∨ r.1 = .lockLost := by
  rcases List.mem_append.mp h with hr | hr
  · obtain ⟨n, -, rfl⟩ := List.mem_map.mp hr
    exact .inl rfl
  · unfold lockLost at hr
    split at hr
    · split at hr
      · exact .inr (congrArg Prod.fst (List.mem_singleton.mp hr))
      · exact absurd hr List.not_mem_nil
    · exact absurd hr List.not_mem_nil

theorem State.mem_demandRaises (s : State) (f : DemandFields) (d : DemandContent) (c : EventCode) :
    (∃ detail, (c, detail) ∈ s.demandRaises f d) ↔
      (c = .valueClamped ∧ clampedFields (s.role == some .ret) f d ≠ []) ∨
      (c = .lockLost ∧ d.mode = .stop ∧ s.role = some .wheel ∧ s.wheel.loop = .locked) := by
  have hlost : (∃ detail, (c, detail) ∈ if d.mode = .stop ∧ s.role = some .wheel then lockLost s.wheel .off else []) ↔
      c = .lockLost ∧ d.mode = .stop ∧ s.role = some .wheel ∧ s.wheel.loop = .locked := by
    unfold lockLost
    split_ifs with hstop hlocked <;> simp [*]
    tauto
  have hclamped (l : List Int) : (∃ detail, (c, detail) ∈ l.map fun n => (EventCode.valueClamped, n)) ↔
      c = .valueClamped ∧ l ≠ [] := by
    cases l with
    | nil => simp
    | cons n l =>
      refine ⟨fun ⟨detail, h⟩ => ?_, fun ⟨hc, _⟩ => ⟨n, hc ▸ List.mem_cons_self⟩⟩
      obtain ⟨m, -, he⟩ := List.mem_map.mp h
      exact ⟨(congrArg Prod.fst he).symm, List.cons_ne_nil n l⟩
  unfold State.demandRaises
  simp only [List.mem_append, exists_or, hlost, hclamped]

theorem State.tellAll_demandRaises (s : State) (f : DemandFields) (d : DemandContent) :
    s.tellAll s.marker.count (s.demandRaises f d) s.outbound =
      (let clamped := ((clampedFields (s.role == some .ret) f d).map (BitVec.ofInt 16)).foldl
        (s.told s.marker.count .valueClamped) s.outbound
      if d.mode = .stop ∧ s.role = some .wheel ∧ s.wheel.loop = .locked then
        s.told s.marker.count .lockLost clamped 0 else clamped) := by
  unfold State.tellAll State.demandRaises
  rw [List.foldl_append, List.foldl_map, List.foldl_map]
  dsimp only
  by_cases hstop : d.mode = .stop ∧ s.role = some .wheel
  · rw [if_pos hstop]
    by_cases hlocked : s.wheel.loop = .locked
    · rw [if_pos ⟨hstop.1, hstop.2, hlocked⟩, lockLost, if_pos hlocked]
      rfl
    · rw [if_neg fun h => hlocked h.2.2, lockLost, if_neg hlocked]
      rfl
  · rw [if_neg hstop, if_neg fun h => hstop ⟨h.1, h.2.1⟩]
    rfl

theorem Steer.resetPending_if (st : Steer) (p q : Prop) [Decidable p] [Decidable q] :
    (if p ∧ q then { st with resetPending := true } else st) =
      { st with resetPending := st.resetPending || (decide p && decide q) } := by
  by_cases hp : p <;> by_cases hq : q <;> simp [hp, hq]

/-- Settles O28: READY and ACTIVE take the DEMAND by the closed form of `State.takeDemand`; SETUP and CONFIG FAULT refresh
row 0 alone. -/
theorem demandTakenAtArrival : Obligations.DemandTakenAtArrival := by
  have hexec (target : Nibble) (f : DemandFields) (s : State) (h : s.TakesFromCabin target) :
      exec (.demand 0 target f) s = .next (s.afterHearing.takeDemand f) := congrArg _ (h.receive _)
  have hbefore (s : State) : s.afterHearing.directionBefore =
      match s.row0 with | .never => .forward | .heard _ _ d => d.direction := by
    change (match s.row0.content? with | none => Direction.forward | some d => d.direction) = _
    cases s.row0 <;> rfl
  refine ⟨handleDemand_eq, fun target f s h hconfigures => ?refreshed, fun target f s h hcomputes => ?taken⟩
  case refreshed =>
    have hnot : s.afterHearing.control.station.computes = false := by
      rcases (StationState.configures_iff _).mp hconfigures with he | he <;>
        exact (congrArg StationState.computes he).trans rfl
    rw [hexec target f s h, State.takeDemand_of_not_computes hnot, hbefore]
    rfl
  case taken =>
    intro before d
    have htaken := State.takeDemand_of_computes (s := s.afterHearing) hcomputes f
    have hd : handleDemand s.afterHearing.directionBefore f = d := congrArg (handleDemand · f) (hbefore s)
    rw [hd] at htaken
    refine ⟨_, (hexec target f s h).trans (congrArg _ htaken), rfl, rfl, ?mode, rfl, rfl, rfl, ?ret, ?steer, ?flags,
      ?outbound, ?others, rfl, rfl, rfl, rfl, rfl, rfl, rfl, rfl⟩
    case mode => simp [State.modeInForce]
    case ret => rfl
    case steer => exact s.steer.resetPending_if _ _
    case flags =>
      intro c
      exact (inSet_latchAll _ _ c).trans (or_congr Iff.rfl ((s.mem_demandRaises f d c).trans
        (or_congr (and_congr Iff.rfl (clampedFields_ne_nil s.role before f)) Iff.rfl)))
    case outbound =>
      refine (s.tellAll_demandRaises f d).trans ?_
      rw [clampedFields_halves s.role before f]
    case others =>
      intro k hclamped hlost
      refine State.findKey_tellAll_other (fun r hr => ?_) _ _
      rcases s.demandRaises_codes hr with he | he <;> rw [he]
      · exact hclamped.symm
      · exact hlost.symm

end Sys2Proof.Machine

/-! ## Measurement and counters at a compute

What a compute tells under one code, the speeds, the analog inputs and the duty counters (R59 to R66, R150 to R152), and
the settlements of O47, O48 and O60. -/

namespace Sys2Proof.Machine

/-! ### What is pending under a key -/

/-- The content pending under a key. -/
def Outbound.pendingOf (o : Outbound) (k : Key) : Option Content := (findKey k o.entries).map Entry.content

theorem findKey_insertEntry_new {k : Key} {e : Entry} {l : List Entry} (he : e.content.key = k)
    (hl : ∀ x ∈ l, x.content.key ≠ k) : findKey k (insertEntry e l) = some e := by
  induction l with
  | nil => simp [insertEntry, findKey_cons, he]
  | cons x l ih =>
    obtain ⟨hx, hl⟩ := List.forall_mem_cons.mp hl
    unfold insertEntry
    split
    · rw [findKey_cons, if_pos he]
    · rw [findKey_cons, if_neg hx, ih hl]

theorem findKey_absorb_same (c : Content) (l : List Entry) :
    findKey c.key (l.map (Entry.absorb c)) = (findKey c.key l).map fun e => e.absorbed c := by
  induction l with
  | nil => rfl
  | cons x l ih =>
    rw [List.map_cons, findKey_cons, findKey_cons, Entry.absorb_key, ih]
    by_cases hx : x.content.key = c.key
    · rw [if_pos hx, if_pos hx, Entry.absorb_of_key_eq hx]
      rfl
    · rw [if_neg hx, if_neg hx]

/-- R10, R11: an offer stands under its key, coalesced with what was pending there. -/
theorem Outbound.pendingOf_offer (o : Outbound) (c : Content) :
    (o.offer c).pendingOf c.key = some ((o.pendingOf c.key).elim c fun old => old.coalesce c) := by
  unfold Outbound.pendingOf
  rcases o.offer_cases c with ⟨hnew, he⟩ | ⟨⟨p, hp, hkey⟩, he⟩ <;> rw [he]
  · rw [findKey_none.mpr hnew]
    exact congrArg _ (findKey_insertEntry_new (e := ⟨c, o.nextStamp, 0⟩) rfl hnew)
  · obtain ⟨e, hfind⟩ : ∃ e, findKey c.key o.entries = some e :=
      Option.ne_none_iff_exists'.mp fun hnone => findKey_none.mp hnone p hp hkey
    rw [findKey_absorb_same, hfind]
    rfl

theorem Outbound.pendingOf_offer_other {k : Key} {c : Content} (h : c.key ≠ k) (o : Outbound) :
    (o.offer c).pendingOf k = o.pendingOf k := congrArg _ (Outbound.findKey_offer_other h o)

/-- What a NOTICE leaves pending under its code depends on what was pending there alone. -/
theorem State.pendingOf_told_congr {s : State} {first : Half} {code : EventCode} {o o' : Outbound} {detail : Half}
    (h : o.pendingOf (.notice code) = o'.pendingOf (.notice code)) :
    (s.told first code o detail).pendingOf (.notice code) = (s.told first code o' detail).pendingOf (.notice code) := by
  unfold State.told
  split
  · have hoffer (o : Outbound) := o.pendingOf_offer (.notice (inSet s.urgencySet code) code 1 detail first)
    exact (hoffer o).trans ((congrArg _ (congrArg (Option.elim · _ _) h)).trans (hoffer o').symm)
  · exact h

theorem State.ComputesTo.of_exec {s t : State} (running : s.inReset = false)
    (hstation : s.control.station.computes = true) (htimer : s.marker.computeTimer.isSome = true)
    (hexec : exec .computePoint s = .next t) : s.ComputesTo t := by
  rw [exec_computePoint_of_timer running htimer] at hexec
  exact Host.Outcome.next.inj hexec ▸ State.computesTo hstation

/-- Of a series of raises, those of one code make what is pending under it. -/
theorem State.pendingOf_tellAll (s : State) (first : Half) (code : EventCode) (l : List Raise) {o o' : Outbound}
    (h : o.pendingOf (.notice code) = o'.pendingOf (.notice code)) :
    (s.tellAll first l o).pendingOf (.notice code) =
      (s.tellAll first (l.filter fun r => r.1 == code) o').pendingOf (.notice code) := by
  induction l generalizing o o' with
  | nil => exact h
  | cons r l ih =>
    by_cases hr : r.1 = code
    · subst hr
      rw [List.filter_cons_of_pos (by simp)]
      exact ih (State.pendingOf_told_congr h)
    · rw [List.filter_cons_of_neg (by simpa using hr)]
      refine ih (Eq.trans ?_ h)
      exact congrArg _ (State.findKey_told_other (by simpa using hr) first o _)

/-- What a compute tells under one code. -/
def State.raisesOf (s : State) (code : EventCode) : List Raise := s.computeRaises.filter fun r => r.1 == code

theorem State.ComputesTo.pendingOf_notice {s t : State} (h : s.ComputesTo t) (code : EventCode) :
    t.outbound.pendingOf (.notice code) =
      (s.tellAll s.marker.count (s.raisesOf code) s.outbound).pendingOf (.notice code) := by
  obtain ⟨halts, -, hout⟩ := h.outbound
  have hhalts (o : Outbound) : (halts.foldl (fun o i => o.offer (.countHalt i)) o).pendingOf (.notice code) =
      o.pendingOf (.notice code) := by
    clear hout
    induction halts generalizing o with
    | nil => rfl
    | cons i l ih => exact (ih (o.offer (.countHalt i))).trans (Outbound.pendingOf_offer_other (c := .countHalt i) (k := .notice code) nofun o)
  rw [hout, hhalts]
  exact s.pendingOf_tellAll s.marker.count code s.computeRaises rfl

theorem State.ComputesTo.inSet_flags {s t : State} (h : s.ComputesTo t) (code : EventCode) :
    inSet t.flags code = true ↔ inSet s.flags code = true ∨ s.raisesOf code ≠ [] := by
  rw [h.flags, inSet_latchAll, State.raisesOf, ne_eq, List.filter_eq_nil_iff]
  simp

/-! ### Which codes a role raises -/

/-- None of these raises is of the front end. -/
def fromRole (l : List Raise) : Prop := ∀ r ∈ l, r.1 ≠ .encoderFault ∧ r.1 ≠ .sensorFault

theorem fromRole_nil : fromRole [] := fun _ h => absurd h List.not_mem_nil

theorem fromRole_append {l m : List Raise} (hl : fromRole l) (hm : fromRole m) : fromRole (l ++ m) :=
  fun r hr => (List.mem_append.mp hr).elim (hl r) (hm r)

theorem fromRole_one {code : EventCode} (h : code ≠ .encoderFault ∧ code ≠ .sensorFault) (detail : Int) :
    fromRole [(code, detail)] := by
  intro r hr
  rw [List.mem_singleton.mp hr]
  exact h

theorem fromRole_lockLost (w : Wheel) (next : LoopState) : fromRole (lockLost w next) := by
  unfold lockLost
  split
  · exact fromRole_one (by decide) _
  · exact fromRole_nil

theorem wheelWindows_fromRole (i : WheelInput) (w : Wheel) : fromRole (wheelWindows i w).2 := by
  unfold wheelWindows
  dsimp only
  split <;> (try split_ifs) <;>
    first | exact fromRole_nil | exact fromRole_lockLost _ _ | exact fromRole_one (by decide) _

theorem wheelDriving_fromRole (i : WheelInput) (w : Wheel) : fromRole (wheelDriving i w).2 := by
  rw [wheelDriving_eq]
  split_ifs
  · unfold wheelJammed
    dsimp only
    split <;> exact fromRole_append (fromRole_lockLost _ _) (fromRole_one (by decide) _)
  · exact wheelWindows_fromRole _ _
  · exact fromRole_nil

theorem wheelCompute_fromRole (i : WheelInput) (w : Wheel) : fromRole (wheelCompute i w).2 := by
  refine fromRole_append ?_ ?_
  · unfold wheelTransition
    dsimp only
    split <;> (try split_ifs) <;> first | exact fromRole_nil | exact wheelDriving_fromRole _ _
  · unfold wheelOutput wheelWindDown
    dsimp only
    split_ifs <;> first | exact fromRole_nil | exact fromRole_lockLost _ _

theorem arbCompute_fromRole (i : ArbInput) (a : Arbitration) : fromRole (arbCompute i a).2 := by
  have hraises : fromRole (match sameSideRow i with
      | some p => if a.sameSide = true then [] else [(EventCode.stationClash, (256 : Int) + p.1)]
      | none => []) := by
    split
    · split
      · exact fromRole_nil
      · exact fromRole_one (by decide) _
    · exact fromRole_nil
  unfold arbCompute
  dsimp only
  split <;> exact hraises

theorem steerCompute_fromRole (i : SteerInput) (w : Steer) : fromRole (steerCompute i w).2 := by
  refine fromRole_append (fromRole_append ?_ ?_) (fromRole_append ?_ ?_)
  · unfold steerFuse
    dsimp only
    split
    · split
      · exact fromRole_one (by decide) _
      · exact fromRole_nil
    · exact fromRole_nil
  · unfold steerOffsets steerDepth
    dsimp only
    split
    · split
      · exact fromRole_nil
      · split_ifs <;> first | exact fromRole_nil | exact fromRole_one (by decide) _
    · exact fromRole_nil
  all_goals
    split
    · exact fromRole_one (by decide) _
    · exact fromRole_nil

theorem returnRunning_fromRole (i : ReturnInput) (w : Return) : fromRole (returnRunning i w).2 := by
  unfold returnRunning returnBlock
  dsimp only
  split_ifs <;> first | exact fromRole_nil | exact fromRole_one (by decide) _

theorem returnPriming_fromRole (i : ReturnInput) (w : Return) : fromRole (returnPriming i w).2 := by
  unfold returnPriming returnBlock
  dsimp only
  split_ifs <;> first | exact fromRole_nil | exact fromRole_one (by decide) _

theorem returnCompute_fromRole (i : ReturnInput) (w : Return) : fromRole (returnCompute i w).2 := by
  refine fromRole_append ?_ ?_
  · unfold returnTransition
    split
    · exact fromRole_nil
    · split <;> (try split) <;>
        first | exact fromRole_nil | exact returnRunning_fromRole _ _ | exact returnPriming_fromRole _ _
  · unfold returnCavitation
    split_ifs <;> first | exact fromRole_nil | exact fromRole_one (by decide) _

theorem State.roleRaises_fromRole (s : State) : fromRole s.roleRaises := by
  unfold State.roleRaises
  cases s.role with
  | none => exact fromRole_nil
  | some role =>
    cases role with
    | wheel => exact fromRole_append (wheelCompute_fromRole _ _) (arbCompute_fromRole _ _)
    | steer => exact steerCompute_fromRole _ _
    | ret => exact returnCompute_fromRole _ _

theorem encoderRaise_code {before after : Option PulseInput} {r : Raise} (h : r ∈ encoderRaise before after) :
    r.1 = .encoderFault := by
  unfold encoderRaise at h
  split at h
  · split at h
    · exact absurd h List.not_mem_nil
    · rw [List.mem_singleton.mp h]
  · split at h
    · exact absurd h List.not_mem_nil
    · rw [List.mem_singleton.mp h]
  · exact absurd h List.not_mem_nil

theorem State.sensorRaise_code {s : State} {i : Fin 4} {r : Raise} (h : r ∈ s.sensorRaise i) : r.1 = .sensorFault := by
  unfold State.sensorRaise at h
  split at h
  · rw [List.mem_singleton.mp h]
  · exact absurd h List.not_mem_nil

/-- The front end raises ENCODER FAULT, then SENSOR FAULT (log 33); a role raises neither. -/
theorem State.raisesOf_encoderFault (s : State) : s.raisesOf .encoderFault = if s.role = some .wheel then
    encoderRaise s.front.encoderFault (encoderCondition s.front.pulse1.sum s.front.pulse2.sum s.front.encoderFault)
    else [] := by
  have hsensor : ((usedInputs s.role).flatMap s.stopCompute.noteSample.sensorRaise).filter
      (fun r => r.1 == .encoderFault) = [] := by
    rw [List.filter_eq_nil_iff]
    intro r hr
    obtain ⟨i, -, hi⟩ := List.mem_flatMap.mp hr
    simp [State.sensorRaise_code hi]
  have hrole : s.atRole.roleRaises.filter (fun r => r.1 == .encoderFault) = [] := by
    rw [List.filter_eq_nil_iff]
    intro r hr
    simpa using (s.atRole.roleRaises_fromRole r hr).1
  have hencoder : (if s.role = some .wheel then
      encoderRaise s.front.encoderFault (encoderCondition s.front.pulse1.sum s.front.pulse2.sum s.front.encoderFault)
      else []).filter (fun r => r.1 == .encoderFault) = if s.role = some .wheel then
      encoderRaise s.front.encoderFault (encoderCondition s.front.pulse1.sum s.front.pulse2.sum s.front.encoderFault)
      else [] := by
    rw [List.filter_eq_self]
    intro r hr
    split at hr
    · simp [encoderRaise_code hr]
    · exact absurd hr List.not_mem_nil
  have hfront : s.stopCompute.noteSample.frontRaises = (if s.role = some .wheel then
      encoderRaise s.front.encoderFault (encoderCondition s.front.pulse1.sum s.front.pulse2.sum s.front.encoderFault)
      else []) ++ (usedInputs s.role).flatMap s.stopCompute.noteSample.sensorRaise := rfl
  rw [State.raisesOf, State.computeRaises, hfront, List.filter_append, List.filter_append, hsensor, hrole, hencoder,
    List.append_nil, List.append_nil]

/-- A role's own raises are what it tells under any code but the front end's. -/
theorem State.raisesOf_role (s : State) {code : EventCode} (hencoder : code ≠ .encoderFault)
    (hsensor : code ≠ .sensorFault) : s.raisesOf code = s.atRole.roleRaises.filter fun r => r.1 == code := by
  have hfront : s.stopCompute.noteSample.frontRaises.filter (fun r => r.1 == code) = [] := by
    rw [List.filter_eq_nil_iff]
    intro r hr
    rcases List.mem_append.mp hr with hr | hr
    · split at hr
      · simpa [encoderRaise_code hr] using hencoder.symm
      · exact absurd hr List.not_mem_nil
    · obtain ⟨i, -, hi⟩ := List.mem_flatMap.mp hr
      simpa [State.sensorRaise_code hi] using hsensor.symm
  rw [State.raisesOf, State.computeRaises, List.filter_append, hfront, List.nil_append]

/-! ### Speeds and pair speed -/

/-- R59: the quotient half up, by its two bounds. -/
theorem ringSpeed_eq {t : ParamTable} {ring : List Nat} {q : Int} (hP10 : 0 < par t 10) (hP1 : 0 < par t 1)
    (hring : ring ≠ []) (hlow : q * (par t 10 * ring.length * par t 1) ≤
      (ring.sum : Int) * 600000 + par t 10 * ring.length * par t 1 / 2)
    (hhigh : (ring.sum : Int) * 600000 + par t 10 * ring.length * par t 1 / 2 <
      (q + 1) * (par t 10 * ring.length * par t 1)) :
    ringSpeed t ring = min 999 q := by
  have hlength : (0 : Int) < ring.length := by exact_mod_cast List.length_pos_iff.mpr hring
  have hd : 0 < par t 10 * ring.length * par t 1 := Int.mul_pos (Int.mul_pos hP10 hlength) hP1
  have hquot : divHalfUp ((ring.sum : Int) * 600000) (par t 10 * ring.length * par t 1) = q := by
    rw [divHalfUp_eq (by positivity) hd]
    exact le_antisymm (Int.le_of_lt_add_one (Int.ediv_lt_of_lt_mul hd hhigh)) (Int.le_ediv_of_mul_le hd hlow)
  rw [ringSpeed, if_neg hring, hquot]

theorem State.ComputesTo.speeds {s t : State} (h : s.ComputesTo t) :
    t.front.pulse1.speed = ringSpeed s.control.params s.front.pulse1.ring ∧
      t.front.pulse2.speed = ringSpeed s.control.params s.front.pulse2.ring := by
  have hrole : s.stopCompute.noteSample.role = s.role := rfl
  rw [h.front]
  unfold State.atRole State.fronted
  rw [hrole]
  split <;> exact ⟨rfl, rfl⟩

/-- R61: a WHEEL station's pair speed comes from the condition and the speeds of the same compute. -/
theorem State.ComputesTo.pairSpeed {s t : State} (h : s.ComputesTo t) : t.front.pairSpeed =
    if s.role = some .wheel then pairSpeedOf t.front.encoderFault t.front.pulse1.speed t.front.pulse2.speed
    else s.front.pairSpeed := by
  have hrole : s.stopCompute.noteSample.role = s.role := rfl
  rw [h.front]
  unfold State.atRole State.fronted
  rw [hrole]
  split <;> rfl

/-- R62: the condition holds for an input of sum 0 against 50 or more, and stands while the other sum is above 0. -/
theorem encoderCondition_iff (sum1 sum2 : Nat) (before : Option PulseInput) :
    (encoderCondition sum1 sum2 before = some .first ↔ sum1 = 0 ∧ (50 ≤ sum2 ∨ (0 < sum2 ∧ before = some .first))) ∧
      (encoderCondition sum1 sum2 before = some .second ↔
        sum2 = 0 ∧ (50 ≤ sum1 ∨ (0 < sum1 ∧ before = some .second))) := by
  unfold encoderCondition
  rcases before with _ | _ | _ <;> dsimp only <;> split_ifs <;> simp <;> omega

/-- The raise of ENCODER FAULT, by the condition before and after the compute (R62). -/
theorem State.ComputesTo.raisesOf_encoderFault {s t : State} (h : s.ComputesTo t) : s.raisesOf .encoderFault =
    if t.front.encoderFault = s.front.encoderFault then []
    else match t.front.encoderFault with
      | some .first => [(EventCode.encoderFault, (1 : Int))]
      | some .second => [(.encoderFault, 2)]
      | none => [] := s.raisesOf_encoderFault.trans h.encoderRaises.symm

/-- Settles O47: the speeds, the condition and the pair speed are those of the front end, and ENCODER FAULT is told once,
where the condition comes to hold. -/
theorem speedsAndPairSpeed : Obligations.SpeedsAndPairSpeed := by
  unfold Obligations.SpeedsAndPairSpeed
  intro speed s t running hstation htimer hP10 hP1 hexec
  have h := State.ComputesTo.of_exec running hstation htimer hexec
  intro sum1 sum2 began pending
  obtain ⟨hspeed1, hspeed2⟩ := h.speeds
  have hring (ring : List Nat) (v : Int) (hv : v = ringSpeed s.control.params ring) : speed s.control.params ring v :=
    ⟨fun hempty => by rw [hv, ringSpeed, if_pos hempty],
      fun hring d q hd hlow hhigh => by subst hd; exact hv.trans (ringSpeed_eq hP10 hP1 hring hlow hhigh)⟩
  have hraises := h.raisesOf_encoderFault
  have hpending : pending t.outbound = pending (s.tellAll s.marker.count (s.raisesOf .encoderFault) s.outbound) :=
    h.pendingOf_notice .encoderFault
  have hflags := h.inSet_flags .encoderFault
  refine ⟨hring _ _ hspeed1, hring _ _ hspeed2, fun hrole => ?_, fun hrole => ?_, ?_, ?_, ?_, ?_⟩
  · exact ⟨h.encoderFault.trans (if_neg hrole), h.pairSpeed.trans (if_neg hrole)⟩
  · have hcondition := h.encoderFault.trans (if_pos hrole)
    obtain ⟨hfirst, hsecond⟩ := encoderCondition_iff sum1 sum2 s.front.encoderFault
    rw [h.pairSpeed, if_pos hrole]
    refine ⟨hcondition ▸ hfirst, hcondition ▸ hsecond, ?_⟩
    cases t.front.encoderFault with
    | none => rfl
    | some i => cases i <;> rfl
  · rw [hflags, hraises]
    simp only [began]
    rcases t.front.encoderFault with _ | _ | _ <;> rcases s.front.encoderFault with _ | _ | _ <;> simp
  · rintro ⟨hafter, hbefore⟩
    rw [hpending, hraises, hafter, if_neg (Ne.symm hbefore)]
    rfl
  · rintro ⟨hafter, hbefore⟩
    rw [hpending, hraises, hafter, if_neg (Ne.symm hbefore)]
    rfl
  · intro hfirst hsecond
    have hnone : s.raisesOf .encoderFault = [] := by
      rw [hraises]
      simp only [began] at hfirst hsecond
      revert hfirst hsecond
      rcases t.front.encoderFault with _ | _ | _ <;> rcases s.front.encoderFault with _ | _ | _ <;> simp
    rw [hpending, hnone]
    rfl

/-! ### The analog inputs -/

theorem goodSample_iff (raw : BitVec 12) : goodSample raw = true ↔ 614 ≤ raw.toNat ∧ raw.toNat ≤ 3583 := by
  simp [goodSample]

theorem divHalfAway_2730 (product : Int) : divHalfAway product 2730 =
    if 0 ≤ product then (product + 1365) / 2730 else -((-product + 1365) / 2730) := by
  rw [divHalfAway_eq]
  by_cases h : product < 0
  · rw [if_pos h, if_neg (by omega), divHalfUp_eq (by omega) (by decide)]
    rfl
  · rw [if_neg h, if_pos (by omega), divHalfUp_eq (by omega) (by decide)]
    rfl

/-- R64: a good sample is scaled, and clamped to its two end values and to the range of its quantity. -/
theorem scaleRaw_eq {range : Int × Int} (h : range.1 ≤ range.2) (lo hi : Int) (raw : BitVec 12) :
    scaleRaw lo hi range raw =
      (let product := ((raw.toNat : Int) - 682) * (hi - lo)
      let quotient := if 0 ≤ product then (product + 1365) / 2730 else -((-product + 1365) / 2730)
      max range.1 (min range.2 (max (min lo hi) (min (max lo hi) (lo + quotient))))) := by
  unfold scaleRaw
  dsimp only
  rw [divHalfAway_2730, clamp_eq_max_min h, clamp_eq_max_min (min_le_max)]

/-- R63: the range of a quantity, by the role that uses the input. -/
theorem quantityRange_eq {role : Option Role} {i : Fin 4} (h : i ∈ usedInputs role) : quantityRange role i =
    if role = some .wheel then (0, 500)
    else if role = some .steer then (if i = 0 ∨ i = 1 then (-20000, 20000) else (0, 1000))
    else if i = 0 then (0, 9999) else if i = 1 then (1000, 2000) else (0, 600) := by
  cases role with
  | none => simp [usedInputs] at h
  | some role =>
    revert i
    cases role <;> decide

theorem quantityRange_ordered (role : Option Role) (i : Fin 4) : (quantityRange role i).1 ≤ (quantityRange role i).2 := by
  unfold quantityRange
  split <;> (try split_ifs) <;> decide

section Treat

variable {lo hi : Int} {range : Int × Int} {a : Analog}

/-- R65: a good sample makes the input GOOD. -/
theorem Analog.treat_of_good (h : goodSample a.raw = true) :
    a.treat lo hi range = { a with lastGood := some (scaleRaw lo hi range a.raw), faults := 0, status := .good } := if_pos h

/-- R65: a bad sample holds the value, and counts until the input is FAULTED. -/
theorem Analog.treat_of_bad (h : ¬ goodSample a.raw = true) :
    (a.treat lo hi range).raw = a.raw ∧ (a.treat lo hi range).lastGood = a.lastGood ∧
      match a.status with
      | .good => (a.treat lo hi range).status = .held ∧ (a.treat lo hi range).faults = 1
      | .unread =>
        if a.faults < 9 then (a.treat lo hi range).status = .unread ∧ (a.treat lo hi range).faults = a.faults + 1
        else (a.treat lo hi range).status = .faulted ∧ (a.treat lo hi range).faults = 10
      | .held =>
        if a.faults < 9 then (a.treat lo hi range).status = .held ∧ (a.treat lo hi range).faults = a.faults + 1
        else (a.treat lo hi range).status = .faulted ∧ (a.treat lo hi range).faults = 10
      | .faulted => (a.treat lo hi range).status = .faulted ∧ (a.treat lo hi range).faults = 10 := by
  have hcount : a.faults + 1 < 10 ↔ a.faults < 9 := by omega
  unfold Analog.treat
  rw [if_neg h]
  cases hstatus : a.status with
  | good => exact ⟨rfl, rfl, rfl, rfl⟩
  | faulted => exact ⟨rfl, rfl, rfl, rfl⟩
  | unread | held =>
    dsimp only
    by_cases hn : a.faults < 9
    · simp [hcount, hn]
    · simp [hcount, hn]

end Treat

/-- R66: an input that enters FAULTED is told. -/
theorem State.ComputesTo.sensorFault {s t : State} (h : s.ComputesTo t) {i : Fin 4} (hused : i ∈ usedInputs s.role)
    (hbefore : (s.input i).status ≠ .faulted) (hafter : (s.treated i).status = .faulted) :
    inSet t.flags .sensorFault = true := by
  rw [h.flags, inSet_latchAll]
  refine .inr ⟨(i.val : Int), List.mem_append_left _ (List.mem_append_right _ (List.mem_flatMap.mpr ⟨i, hused, ?_⟩))⟩
  have hraise : s.stopCompute.noteSample.sensorRaise i = [(.sensorFault, (i.val : Int))] := if_pos ⟨hafter, hbefore⟩
  rw [hraise]
  exact List.mem_singleton_self _

/-- Settles O48: a used input is treated by the table, and an unused one stands. -/
theorem analogInputsMoveByTable : Obligations.AnalogInputsMoveByTable := by
  intro s t running hstation htimer hexec i a b used good range lo hi product quotient
  have h := State.ComputesTo.of_exec running hstation htimer hexec
  have hused : i ∈ usedInputs s.role ↔ used := mem_usedInputs s.role i
  have hb : b = if i ∈ usedInputs s.role then s.treated i else a := h.input i
  refine ⟨fun hnot => ?_, fun hu hgood => ?_, fun hu hbad => ?_, fun hbefore hafter => ?_⟩
  · rw [hb, if_neg (hused.not.mpr hnot)]
  · have htreat : b = { a with
        lastGood := some (scaleRaw lo hi (quantityRange s.role i) a.raw), faults := 0, status := .good } := by
      rw [hb, if_pos (hused.mpr hu)]
      exact Analog.treat_of_good ((goodSample_iff _).mpr hgood)
    have hrange : quantityRange s.role i = range := quantityRange_eq (hused.mpr hu)
    have hscale := scaleRaw_eq (quantityRange_ordered s.role i) lo hi a.raw
    rw [htreat]
    refine ⟨rfl, rfl, rfl, congrArg some (hscale.trans ?_)⟩
    rw [hrange]
  · rw [hb, if_pos (hused.mpr hu)]
    exact Analog.treat_of_bad ((goodSample_iff _).not.mpr hbad)
  · by_cases hu : i ∈ usedInputs s.role
    · rw [hb, if_pos hu] at hafter
      exact h.sensorFault hu hbefore hafter
    · rw [hb, if_neg hu] at hafter
      exact absurd hafter hbefore

/-! ### The duty counters -/

theorem State.rows_toList (s : State) : s.rows.toList = (List.range 14).map fun n => s.row (n + 1) := by
  refine List.ext_getElem (by simp) fun n hn _ => ?_
  have hrow : s.row (n + 1) = s.rows[n]'(by simpa using hn) := by
    simp only [State.row, Nat.succ_ne_zero, if_false, Nat.add_sub_cancel]
    rw [Vector.getElem?_eq_getElem]
    rfl
  simp [hrow]

/-- R54: the rows that are STALE or LOST, one by one. -/
theorem State.staleRows_eq (s : State) : s.staleRows = (if s.row0.notFresh = true then 1 else 0) +
    ((List.range 14).map fun n => if (s.row (n + 1)).notFresh = true then 1 else 0).sum := by
  have hsum (l : List (Row PeerContent)) :
      (l.filter Row.notFresh).length = (l.map fun r => if r.notFresh = true then 1 else 0).sum := by
    rw [← List.countP_eq_length_filter]
    induction l with
    | nil => rfl
    | cons r l ih => rw [List.countP_cons, ih, List.map_cons, List.sum_cons, Nat.add_comm]
  rw [State.staleRows, hsum, s.rows_toList, List.map_map]
  rfl

/-- A source of another role reads 0 (R150). -/
theorem reads_zero {p q : Prop} [Decidable p] [Decidable q] {v rest : Int} (h : q → p → False) (hrest : rest = 0) :
    (if p then (if q then v else 0) else rest) = 0 := by
  split
  · next hp => exact if_neg fun hq => h hq hp
  · exact hrest

/-- R150: what a source reads, by role and source. -/
theorem State.sourceReading_eq (s : State) (source : Int) : s.sourceReading source =
    match s.role, source with
    | some .wheel, 1 => (s.input 0).lastGood.getD 0
    | some .wheel, 2 => s.front.pairSpeed
    | some .wheel, 3 => if s.wheel.loop = .locked then 0 else 1
    | some .wheel, 4 => if s.arb.mode = .steer then 1 else 0
    | some .steer, 5 => s.steer.usedX.natAbs
    | some .steer, 6 => s.steer.usedY.natAbs
    | some .steer, 7 => s.steer.offX.natAbs
    | some .steer, 8 => s.steer.offY.natAbs
    | some .ret, 9 => (s.input 1).lastGood.getD 0
    | some .ret, 10 => (s.input 0).lastGood.getD 0
    | some .ret, 11 => (s.input 2).lastGood.getD 0
    | some .ret, 12 => if s.ret.state = .running then 0 else 1
    | _, 13 => if s.modeInForce = .cut then 1 else 0
    | _, 14 => s.staleRows
    | _, 15 => s.ch0.applied.natAbs
    | _, _ => 0 := by
  generalize hrole : s.role = role
  split
  case h_16 h13 h14 h15 h1 h2 h3 h4 h5 h6 h7 h8 h9 h10 h11 h12 =>
    unfold State.sourceReading
    dsimp only
    rw [hrole, if_neg h13, if_neg h14, if_neg h15]
    exact reads_zero h1 <| reads_zero h2 <| reads_zero h3 <| reads_zero h4 <| reads_zero h5 <| reads_zero h6 <|
      reads_zero h7 <| reads_zero h8 <| reads_zero h9 <| reads_zero h10 <| reads_zero h11 <| reads_zero h12 rfl
  all_goals simp [State.sourceReading, hrole, mag_eq_natAbs, Analog.value]

/-- R151, R152: a counter counted, field by field. -/
theorem Counter.counted_eq (c : Counter) (counts condition : Bool) : c.counted counts condition =
    ⟨if counts = true then c.value + 1 else c.value, c.overflow || (counts && c.value == 4294967295), condition⟩ := by
  cases counts
  · simp [Counter.counted]
  · rfl

theorem content_of_countHalt_key {c : Content} (h : c.key = .countHalt) : ∃ i, c = .countHalt i := by
  cases c with
  | countHalt i => exact ⟨i, rfl⟩
  | mark | report | notice | countAnswer => exact absurd h nofun

/-- R152: of several COUNT HALTs offered, a pending one keeps its counter, and else the first stands. -/
theorem Outbound.pendingOf_foldl_countHalt (l : List Byte) (o : Outbound) :
    (l.foldl (fun o i => o.offer (.countHalt i)) o).pendingOf .countHalt =
      (o.pendingOf .countHalt).or (l.head?.map .countHalt) := by
  induction l generalizing o with
  | nil => simp
  | cons i l ih =>
    have hoffer : (o.offer (.countHalt i)).pendingOf .countHalt = some ((o.pendingOf .countHalt).getD (.countHalt i)) := by
      refine (o.pendingOf_offer (.countHalt i)).trans (congrArg some ?_)
      change (o.pendingOf .countHalt).elim _ _ = _
      cases hpending : o.pendingOf .countHalt with
      | none => rfl
      | some c =>
        obtain ⟨e, hfind, rfl⟩ := Option.map_eq_some_iff.mp hpending
        obtain ⟨j, hj⟩ := content_of_countHalt_key (findKey_some hfind).2
        simp [hj, Content.coalesce]
    rw [List.foldl_cons, ih, hoffer]
    cases o.pendingOf .countHalt <;> rfl

/-- The station whose counters are evaluated: the role moved and every raise told (R151). -/
def State.beforeCounters (s : State) : State := s.moved.raised s.computeRaises

theorem State.beforeCounters_control (s : State) : s.beforeCounters.control = s.control := s.moved_control

theorem State.beforeCounters_duty (s : State) : s.beforeCounters.duty = s.duty := by
  rw [State.beforeCounters, s.moved_eq]
  rfl

/-- No raise offers a COUNT HALT. -/
theorem State.pendingOf_beforeCounters (s : State) :
    s.beforeCounters.outbound.pendingOf .countHalt = s.outbound.pendingOf .countHalt := by
  have hout : s.moved.outbound = s.outbound := by
    rw [s.moved_eq]
    rfl
  rw [State.beforeCounters, ← hout]
  exact congrArg _ (State.findKey_tellAll_other (fun r _ => (nofun : Key.notice r.1 ≠ .countHalt)) _ _)

theorem State.computePoint_of_running {s : State} (hstation : s.control.station.computes = true)
    (hfrozen : s.duty.frozen = false) : s.computePoint = s.beforeCounters.evaluatedAll [0, 1, 2, 3] := by
  have hworking : s.beforeCounters.control.station.working = true := by
    rw [s.beforeCounters_control]
    exact StationState.computes_working hstation
  have hrunning : ¬ s.beforeCounters.duty.frozen = true := by simp [s.beforeCounters_duty, hfrozen]
  rw [State.computePoint_of_computes hstation, ← State.beforeCounters, State.dutyCompute_of_working hworking,
    if_neg hrunning]

/-- Settles O60: the counters read the station after role and raises, in which counters, parameters and the pending COUNT
HALT stand as before the compute. -/
theorem countersAtCompute : Obligations.CountersAtCompute := by
  intro s t running hstation htimer hfrozen hexec
  have ht : t = s.beforeCounters.evaluatedAll [0, 1, 2, 3] := by
    rw [exec_computePoint_of_timer running htimer, State.computePoint_of_running hstation hfrozen] at hexec
    exact (Host.Outcome.next.inj hexec).symm
  have hcontrol := s.beforeCounters_control
  have hduty := s.beforeCounters_duty
  have hpendingBefore := s.pendingOf_beforeCounters
  obtain ⟨u, hu⟩ : ∃ u, s.beforeCounters = u := ⟨_, rfl⟩
  rw [hu] at ht hcontrol hduty hpendingBefore
  subst ht
  intro stale analog reading source option condition counts halts pending
  have hstale : (u.staleRows : Nat) = stale := by
    refine u.staleRows_eq.trans (congrArg₂ (· + ·) ?_ (congrArg List.sum (List.map_congr_left fun n _ => ?_)))
    · change _ = match u.row0 with | .heard .stale _ _ | .heard .lost _ _ => 1 | .never | .heard .fresh _ _ => 0
      rcases u.row0 with _ | ⟨_ | _ | _, age, c⟩ <;> rfl
    · change _ = match u.row (n + 1) with | .heard .stale _ _ | .heard .lost _ _ => 1 | .never | .heard .fresh _ _ => 0
      rcases u.row (n + 1) with _ | ⟨_ | _ | _, age, c⟩ <;> rfl
  have hrole : s.role = u.role := by simp only [State.role, hcontrol]
  have hreading (source : Int) : u.sourceReading source = reading source := by
    simp only [reading, hrole]
    rw [← hstale]
    exact u.sourceReading_eq source
  have hparam (n : Nat) : u.param n = s.param n := by simp only [State.param, hcontrol]
  have hoption (i : Fin 4) (b : Nat) : u.counterOption i b = option i b := by
    simp only [State.counterOption, option, hcontrol]
  have hcondition (i : Fin 4) : u.counterCondition i = condition i := by
    simp only [State.counterCondition, condition, hreading, hoption, State.counterSource, State.counterThreshold, hparam]
    rfl
  have hcounts (i : Fin 4) : u.counterCounts i = counts i := by
    simp only [State.counterCounts, counts, hcondition, hoption, hduty]
  have hhalts (i : Fin 4) : u.offersHalt i = halts i := by
    have hsource : u.counterSource i = source i := hparam _
    simp only [State.offersHalt, State.counterHalts, halts, hcounts, hoption, hduty, hsource, Bool.and_assoc]
    congr 3
    exact Bool.and_comm _ _
  refine ⟨fun i => ?_, ?_⟩
  · have hcounter : (u.evaluatedAll [0, 1, 2, 3]).duty.counters[i] = u.evaluated i := by
      have hmem : i ∈ ([0, 1, 2, 3] : List (Fin 4)) := by revert i; decide
      simp only [State.evaluatedAll, Fin.getElem_fin, Vector.getElem_ofFn, Fin.eta, if_pos hmem]
    have hsource : u.counterSource i = source i := hparam _
    rw [hcounter, State.evaluated, hsource, Counter.counted_eq, hcounts, hcondition, hduty]
    exact ⟨fun hzero => if_pos hzero, fun hsome => if_neg hsome⟩
  · have hpending : pending (u.evaluatedAll [0, 1, 2, 3]).outbound =
        (pending s.outbound).or ((([0, 1, 2, 3] : List (Fin 4)).find? halts).map
          fun i => .countHalt (BitVec.ofNat 8 i.val)) := by
      have hfold := Outbound.pendingOf_foldl_countHalt
        ((([0, 1, 2, 3] : List (Fin 4)).filter u.offersHalt).map fun i => BitVec.ofNat 8 i.val) u.outbound
      rw [List.foldl_map, List.head?_map, List.head?_filter, Option.map_map, hpendingBefore] at hfold
      rw [← funext hhalts]
      exact hfold
    rw [hpending]
    cases pending s.outbound with
    | none => exact ⟨fun h => absurd rfl h, fun _ => rfl⟩
    | some c => exact ⟨fun _ => rfl, nofun⟩

end Sys2Proof.Machine

/-! ## Arbitration

Same side, partner and standing, and the leader's machine (R95 to R102), and the settlements of O52 and O54. -/

namespace Sys2Proof.Machine

/-! ### Same side and partner -/

theorem side_ne_iff (a b : Side) : a ≠ b ↔ a = otherSide b := by
  cases a <;> cases b <;> decide

section Rows

variable {i : ArbInput} (hrows : i.wheels.Pairwise fun p q => p.1 < q.1)

theorem sameSideRow_isSome_iff (i : ArbInput) :
    (sameSideRow i).isSome = true ↔ ∃ q, q ∈ i.wheels ∧ q.2.side = i.side := by
  rw [sameSideRow, lowestOf, List.find?_isSome]
  simp

include hrows

theorem sameSideRow_eq_some_iff (q : Nat × PeerContent) : sameSideRow i = some q ↔
    (q ∈ i.wheels ∧ q.2.side = i.side) ∧ ∀ r, r ∈ i.wheels ∧ r.2.side = i.side → q.1 ≤ r.1 := by
  rw [sameSideRow, lowestOf, find?_eq_some_iff_lowest hrows]
  simp [and_assoc]

/-- R95: the partner is the lowest row, while no usable WHEEL row is of the own side. -/
theorem partnerRow_eq_some_iff (p : Nat × PeerContent) : partnerRow i = some p ↔
    p ∈ i.wheels ∧ ∀ q ∈ i.wheels, q.2.side ≠ i.side ∧ p.1 ≤ q.1 := by
  unfold partnerRow
  split
  · next hsame =>
    obtain ⟨q, hq, hside⟩ := (sameSideRow_isSome_iff i).mp hsame
    exact ⟨nofun, fun h => absurd hside (h.2 q hq).1⟩
  · next hsame =>
    have hopposite (q : Nat × PeerContent) (hq : q ∈ i.wheels) : q.2.side ≠ i.side :=
      fun hside => hsame ((sameSideRow_isSome_iff i).mpr ⟨q, hq, hside⟩)
    rw [lowestOf, find?_eq_some_iff_lowest hrows]
    constructor
    · rintro ⟨hp, -, hlow⟩
      exact ⟨hp, fun q hq => ⟨hopposite q hq, hlow q hq (beq_iff_eq.mpr ((side_ne_iff _ _).mp (hopposite q hq)))⟩⟩
    · rintro ⟨hp, hlow⟩
      exact ⟨hp, beq_iff_eq.mpr ((side_ne_iff _ _).mp (hopposite p hp)), fun q hq _ => (hlow q hq).2⟩

end Rows

/-- A partner leaves no same-side condition (R95). -/
theorem sameSideRow_of_partner {i : ArbInput} {p : Nat × PeerContent} (h : partnerRow i = some p) :
    sameSideRow i = none := by
  unfold partnerRow at h
  cases hsame : sameSideRow i with
  | none => rfl
  | some q => simp [hsame] at h

/-! ### Standing -/

/-- Arbitration with the standing that this compute finds (R95 to R97). -/
def Arbitration.stands (i : ArbInput) (a : Arbitration) : Arbitration :=
  changeStanding i { a with sameSide := (sameSideRow i).isSome }

theorem arbCompute_eq (i : ArbInput) (a : Arbitration) : (arbCompute i a).1 =
    if (a.stands i).standing = .follower then a.stands i
    else { arbDecide i (a.stands i) with
      next := moveToward (arbDecide i (a.stands i)).inEffect (arbDecide i (a.stands i)).target (par i.params 43) } :=
  arbCompute_state i a

theorem arbCompute_raises (i : ArbInput) (a : Arbitration) : (arbCompute i a).2 =
    match sameSideRow i with
    | some p => if a.sameSide then [] else [(.stationClash, 256 + p.1)]
    | none => [] := by
  unfold arbCompute
  dsimp only
  split <;> rfl

/-- The standing of a compute is the one its rows give, and its same-side condition that of its rows. -/
theorem arbCompute_standing (i : ArbInput) (a : Arbitration) :
    (arbCompute i a).1.standing = (selectStanding i).1 ∧ (arbCompute i a).1.leader = (selectStanding i).2 ∧
      (arbCompute i a).1.sameSide = (sameSideRow i).isSome := by
  obtain ⟨hstanding, hleader⟩ := changeStanding_standing i { a with sameSide := (sameSideRow i).isSome }
  have hsame := changeStanding_sameSide i { a with sameSide := (sameSideRow i).isSome }
  obtain ⟨hstanding', hleader', hsame', -⟩ := arbDecide_frame i (a.stands i)
  rw [arbCompute_eq]
  split
  · exact ⟨hstanding, hleader, hsame⟩
  · exact ⟨hstanding'.trans hstanding, hleader'.trans hleader, hsame'.trans hsame⟩

theorem selectStanding_of_partner {i : ArbInput} {p : Nat × PeerContent} (h : partnerRow i = some p) :
    selectStanding i = if i.number < p.1 then (.leader, none) else (.follower, some p.1) := by
  rw [selectStanding, h]

theorem selectStanding_of_none {i : ArbInput} (h : partnerRow i = none) : selectStanding i = (.lone, none) := by
  rw [selectStanding, h]

/-- The station stays a follower of its leader, or stays none (R97). -/
abbrev Carries (i : ArbInput) (a : Arbitration) : Prop :=
  if a.standing = .follower then (selectStanding i).1 = .follower ∧ (selectStanding i).2 = a.leader
  else (selectStanding i).1 ≠ .follower

/-- R97: the counts carry over, or become 0. -/
theorem stands_cases (i : ArbInput) (a : Arbitration) :
    (Carries i a ∧ a.stands i = { a with
      sameSide := (sameSideRow i).isSome, standing := (selectStanding i).1, leader := (selectStanding i).2 }) ∨
    (¬ Carries i a ∧ a.stands i = { a with
      sameSide := (sameSideRow i).isSome, standing := (selectStanding i).1, leader := (selectStanding i).2
      starve := 0, relief := 0 }) := by
  unfold Arbitration.stands changeStanding
  by_cases h : Carries i a
  · exact .inl ⟨h, if_pos h⟩
  · exact .inr ⟨h, if_neg h⟩

theorem stands_frame (i : ArbInput) (a : Arbitration) : a.stands i = { a with
    standing := (a.stands i).standing, leader := (a.stands i).leader, sameSide := (sameSideRow i).isSome
    starve := (a.stands i).starve, relief := (a.stands i).relief } := by
  rcases stands_cases i a with ⟨-, h⟩ | ⟨-, h⟩ <;> rw [h]

/-- A follower stands as it stood, but for its standing and the counts (R97). -/
theorem arbCompute_follows {i : ArbInput} {a : Arbitration} (h : (arbCompute i a).1.standing = .follower) :
    let b := (arbCompute i a).1
    b = { a with standing := .follower, leader := b.leader, sameSide := false, starve := b.starve, relief := b.relief } ∧
      (a.standing = .follower → a.leader = b.leader → b.starve = a.starve ∧ b.relief = a.relief) ∧
      (a.standing ≠ .follower ∨ a.leader ≠ b.leader → b.starve = 0 ∧ b.relief = 0) := by
  obtain ⟨hstanding, hleader, -⟩ := arbCompute_standing i a
  have hsame : (sameSideRow i).isSome = false := by
    cases hpartner : partnerRow i with
    | none => rw [hstanding, selectStanding_of_none hpartner] at h; exact absurd h nofun
    | some p => rw [sameSideRow_of_partner hpartner]; rfl
  have hstands : (arbCompute i a).1 = a.stands i := arbCompute_of_follower h
  have hframe := stands_frame i a
  rw [hstands] at h hstanding hleader ⊢
  rw [h, hsame] at hframe
  rw [h] at hstanding
  refine ⟨hframe, fun hwas hsameLeader => ?_, fun hchanged => ?_⟩
  · have hcarries : Carries i a := by
      rw [Carries, if_pos hwas, ← hstanding, ← hleader]
      exact ⟨rfl, hsameLeader.symm⟩
    rcases stands_cases i a with ⟨-, he⟩ | ⟨hnot, -⟩
    · rw [he]
      exact ⟨rfl, rfl⟩
    · exact absurd hcarries hnot
  · have hnot : ¬ Carries i a := by
      intro hcarries
      unfold Carries at hcarries
      rw [← hstanding, ← hleader] at hcarries
      split at hcarries
      · next hwas => exact hchanged.elim (absurd hwas) fun hne => hne hcarries.2.symm
      · exact hcarries rfl
    rcases stands_cases i a with ⟨hcarries, -⟩ | ⟨-, he⟩
    · exact absurd hcarries hnot
    · rw [he]
      exact ⟨rfl, rfl⟩

/-- R95: the lower of two numbers leads. -/
theorem arbCompute_of_partner {i : ArbInput} {p : Nat × PeerContent} (h : partnerRow i = some p) (a : Arbitration) :
    (i.number < p.1 → (arbCompute i a).1.standing = .leader ∧ (arbCompute i a).1.leader = none) ∧
      (p.1 < i.number → (arbCompute i a).1.standing = .follower ∧ (arbCompute i a).1.leader = some p.1) := by
  obtain ⟨hstanding, hleader, -⟩ := arbCompute_standing i a
  rw [hstanding, hleader, selectStanding_of_partner h]
  exact ⟨fun hlt => by rw [if_pos hlt]; exact ⟨rfl, rfl⟩, fun hlt => by rw [if_neg hlt.not_gt]; exact ⟨rfl, rfl⟩⟩

/-- Settles O52: the rows are filtered in order, arbitration reads them, and its standing is the one they give. -/
theorem partnersChooseOneLeader : Obligations.PartnersChooseOneLeader := by
  refine ⟨fun s role => ⟨s.usableOf_ascending role, s.mem_usableOf role⟩, fun s => ?reads, fun i a hrows => ?compute,
    fun i j a b c d hi hj hlt => ?_⟩
  case reads =>
    refine ⟨⟨rfl, rfl, rfl, rfl, rfl, rfl, rfl⟩, Analog.valid_iff _, fun life age d hrow => ?_⟩
    simp [State.arbInput, State.demandField, State.demandHeld, hrow, Row.content?]
  case compute =>
    intro b raises own
    obtain ⟨hstanding, hleader, hsame⟩ := arbCompute_standing i a
    have hraises : raises = _ := arbCompute_raises i a
    refine ⟨?_, fun hnone => ?_, fun q hq hlow hnot => ?_, partnerRow_eq_some_iff hrows, fun hnone => ?_,
      fun p hp => arbCompute_of_partner hp a, arbCompute_follows⟩
    · rw [show b.sameSide = _ from hsame]
      exact sameSideRow_isSome_iff i
    · rw [hraises]
      split
      · next q hq =>
        exact if_pos (hnone.resolve_right fun h => h q ((sameSideRow_eq_some_iff hrows q).mp hq).1)
      · rfl
    · rw [hraises, (sameSideRow_eq_some_iff hrows q).mpr ⟨hq, hlow⟩]
      exact if_neg (by simp [hnot])
    · rw [show b.standing = _ from hstanding, show b.leader = _ from hleader, selectStanding_of_none hnone]
      exact ⟨rfl, rfl⟩
  · exact ⟨((arbCompute_of_partner hi a).1 hlt).1, (arbCompute_of_partner hj b).2 hlt⟩

/-! ### The leader's machine -/

/-- R99: the steer error, by which faces have a usable row. -/
theorem steerError_eq (i : ArbInput) :
    steerError i = match lowestOf .zero i.steers, lowestOf .one i.steers with
      | some p, some q => i.targetX - (p.2.offsetX + q.2.offsetX).tdiv 2
      | some p, none => i.targetX - p.2.offsetX
      | none, some q => i.targetX - q.2.offsetX
      | none, none => i.targetX := by
  unfold steerError faceOffsets
  cases lowestOf .zero i.steers <;> cases lowestOf .one i.steers <;> simp [divZero]

section Machine

variable {i : ArbInput} {a : Arbitration}

theorem arbMachine_of_balance (h : a.mode = .balance) : arbMachine i a =
    if par i.params 35 ≤ mag (steerError i) then { a with mode := .steer, starve := 0 } else a := by
  unfold arbMachine
  rw [h]

theorem arbMachine_of_steer (h : a.mode = .steer) : arbMachine i a =
    if mag (steerError i) ≤ par i.params 36 then { a with mode := .balance, starve := 0 }
    else if parN i.params 38 ≤ starveCount i a ∧ a.starve < starveCount i a then
      { a with mode := .relief, starve := 0, relief := 0 }
    else { a with starve := starveCount i a } := by
  unfold arbMachine
  rw [h]

theorem arbMachine_of_relief (h : a.mode = .relief) : arbMachine i a =
    if parN i.params 39 ≤ a.relief + 1 then
      (if par i.params 36 < mag (steerError i) then { a with mode := .steer, starve := 0, relief := 0 }
       else { a with mode := .balance, relief := 0 })
    else { a with relief := a.relief + 1 } := by
  unfold arbMachine
  rw [h]

/-- R98, R99: a leader under CUT with a usable STEER row runs the machine. -/
theorem arbDecide_of_machine (hlone : a.standing ≠ .lone) (hcut : i.mode = .cut) (hsteers : i.steers ≠ []) :
    arbDecide i a = { arbMachine i a with
      target := if (arbMachine i a).mode = .steer then steerTarget i else balanceTarget i } := by
  simp [arbDecide, hlone, hcut, hsteers]

/-- What a leader under CUT with a usable STEER row decides on: its standing and counts found, the machine run. -/
theorem arbCompute_of_machine (hleader : (arbCompute i a).1.standing = .leader) (hcut : i.mode = .cut)
    (hsteers : i.steers ≠ []) : (arbCompute i a).1.mode = (arbMachine i (a.stands i)).mode ∧
      (arbCompute i a).1.starve = (arbMachine i (a.stands i)).starve ∧
      (arbCompute i a).1.relief = (arbMachine i (a.stands i)).relief := by
  have hstands : (a.stands i).standing = .leader := by
    obtain ⟨hstanding, -, -⟩ := arbCompute_standing i a
    rw [Arbitration.stands, (changeStanding_standing _ _).1, ← hstanding, hleader]
  have hleads : (a.stands i).standing ≠ .follower := hstands.trans_ne nofun
  rw [arbCompute_eq, if_neg hleads, arbDecide_of_machine (hstands.trans_ne nofun) hcut hsteers]
  exact ⟨rfl, rfl, rfl⟩

/-- A leader takes over from a follower with both counts 0, and else with the counts it had (R97). -/
theorem stands_of_leader (h : (selectStanding i).1 = .leader) (a : Arbitration) : (a.stands i).mode = a.mode ∧
    (a.stands i).starve = (if a.standing = .follower then 0 else a.starve) ∧
      (a.stands i).relief = if a.standing = .follower then 0 else a.relief := by
  by_cases hwas : a.standing = .follower
  · have hnot : ¬ Carries i a := by simp [Carries, hwas, h]
    rcases stands_cases i a with ⟨hcarries, -⟩ | ⟨-, he⟩
    · exact absurd hcarries hnot
    · rw [he, if_pos hwas, if_pos hwas]
      exact ⟨rfl, rfl, rfl⟩
  · have hcarries : Carries i a := by simp [Carries, hwas, h]
    rcases stands_cases i a with ⟨-, he⟩ | ⟨hnot, -⟩
    · rw [he, if_neg hwas, if_neg hwas]
      exact ⟨rfl, rfl, rfl⟩
    · exact absurd hcarries hnot

theorem PeerContent.sensorFault_eq (c : PeerContent) : c.sensorFault = inSet c.flags .sensorFault := rfl

/-- R101: the starve count against a partner's pressure. -/
theorem starveCount_of_partner {n : Nat} {c : PeerContent} {p : WheelPart} (h : partnerRow i = some (n, c))
    (hpart : c.part = .wheel p) : starveCount i a =
    if i.pressureValid = true ∧ inSet c.flags .sensorFault = false then
      (if par i.params 37 ≤ (i.pressure - (p.pressure.toNat : Int)).natAbs then a.starve + 1 else 0)
    else a.starve := by
  have hpressure : c.pressure = p.pressure.toNat := by rw [PeerContent.pressure, hpart]
  have hknown : pressuresKnown i c = true ↔ i.pressureValid = true ∧ inSet c.flags .sensorFault = false := by
    simp [pressuresKnown, PeerContent.sensorFault_eq]
  rw [starveCount, h]
  dsimp only
  rw [hpressure, mag_eq_natAbs]
  exact if_congr hknown rfl rfl

end Machine

/-- Settles O54: a leader runs the machine on the mode it had and the counts it carries over, mode by mode. -/
theorem arbitrationModesFollowMarks : Obligations.ArbitrationModesFollowMarks := by
  refine ⟨fun i => ?error, fun i a n c p hpartner hpart hlt hcut hsteers => ?machine⟩
  case error =>
    refine (steerError_eq i).trans ?_
    unfold lowestOf
    cases i.steers.find? fun q => q.2.side == .zero <;> cases i.steers.find? fun q => q.2.side == .one <;> rfl
  case machine =>
    intro b e starve relief count
    have hleader : (arbCompute i a).1.standing = .leader := ((arbCompute_of_partner hpartner a).1 hlt).1
    have hselect : (selectStanding i).1 = .leader := (arbCompute_standing i a).1.symm.trans hleader
    obtain ⟨hmode, hstarve, hrelief⟩ := stands_of_leader hselect a
    have hcount : starveCount i (a.stands i) = count := by
      rw [starveCount_of_partner hpartner hpart, hstarve]
    have hshort : count ≤ starve + 1 := by
      simp only [count]
      split_ifs <;> omega
    have he : mag (steerError i) = e := mag_eq_natAbs _
    obtain ⟨hb, hbstarve, hbrelief⟩ := arbCompute_of_machine hleader hcut hsteers
    change b.mode = _ at hb
    change b.starve = _ at hbstarve
    change b.relief = _ at hbrelief
    change _ = starve at hstarve
    change _ = relief at hrelief
    refine ⟨fun h => ?balance, fun h hfew => ?steer, fun h => ?relief⟩
    case balance =>
      rw [arbMachine_of_balance (hmode.trans h), he] at hb hbstarve hbrelief
      rw [hb, hbstarve, hbrelief]
      refine ⟨fun hfar => ?_, fun hnear => ?_⟩
      · rw [if_pos hfar]
        exact ⟨rfl, rfl, hrelief⟩
      · rw [if_neg hnear.not_ge]
        exact ⟨hmode.trans h, hstarve, hrelief⟩
    case steer =>
      rw [arbMachine_of_steer (hmode.trans h), he, hcount, hstarve] at hb hbstarve hbrelief
      rw [hb, hbstarve, hbrelief]
      refine ⟨fun hnear => ?_, fun hfar => ?_⟩
      · rw [if_pos hnear]
        exact ⟨rfl, rfl, hrelief⟩
      · rw [if_neg hfar.not_ge]
        refine ⟨fun hfull => ?_, fun hnot => ?_⟩
        · rw [if_pos ⟨hfull.ge, by omega⟩]
          exact ⟨rfl, rfl, rfl⟩
        · rw [if_neg (by omega)]
          exact ⟨hmode.trans h, rfl, hrelief⟩
    case relief =>
      rw [arbMachine_of_relief (hmode.trans h), he, hrelief] at hb hbstarve hbrelief
      rw [hb, hbstarve, hbrelief]
      refine ⟨fun hshorter => ?_, fun hover => ?_⟩
      · rw [if_neg hshorter.not_ge]
        exact ⟨hmode.trans h, rfl, hstarve⟩
      · rw [if_pos hover]
        by_cases hfar : par i.params 36 < e
        · rw [if_pos hfar]
          exact ⟨rfl, fun _ => ⟨rfl, rfl⟩, fun hnear => absurd hnear hfar.not_ge⟩
        · rw [if_neg hfar]
          exact ⟨rfl, fun h => absurd h hfar, fun _ => rfl⟩

end Sys2Proof.Machine

/-! ## Steering

The stages of one compute of the steering role (R113), and the settlements of O55, O56 and O57. -/

namespace Sys2Proof.Machine

/-! ### The stages of a compute -/

section Stages

variable (i : SteerInput) (w : Steer)

/-- The steering role after stage 2: offset reset and fusion (R113). -/
def fusedSteer : Steer := (steerFuse i (steerReset i w)).1

/-- The steering role after stage 3: averaging and depth step (R113). -/
def movedSteer : Steer := (steerOffsets i (fusedSteer i w)).1

theorem steerCompute_state :
    (steerCompute i w).1 = steerDemands i (steerStuck i (movedSteer i w)).1 := rfl

theorem steerCompute_raises : (steerCompute i w).2 =
    (steerFuse i (steerReset i w)).2 ++ (steerOffsets i (fusedSteer i w)).2 ++ (steerStuck i (movedSteer i w)).2 := rfl

/-- The stuck test and the demands leave tilt, offsets and depth reference (R113). -/
theorem steerCompute_moved : let r := (steerCompute i w).1
    r.fusion = (movedSteer i w).fusion ∧ r.usedX = (movedSteer i w).usedX ∧ r.usedY = (movedSteer i w).usedY ∧
      r.offX = (movedSteer i w).offX ∧ r.offY = (movedSteer i w).offY ∧ r.resX = (movedSteer i w).resX ∧
      r.resY = (movedSteer i w).resY ∧ r.depthRef = (movedSteer i w).depthRef ∧
      r.resetPending = (movedSteer i w).resetPending ∧ r.resetPeriod = (movedSteer i w).resetPeriod :=
  ⟨rfl, rfl, rfl, rfl, rfl, rfl, rfl, rfl, rfl, rfl⟩

end Stages

/-! ### Which stage raises which code -/

section Codes

variable (i : SteerInput) (w : Steer)

theorem steerFuse_code {r : Raise} (h : r ∈ (steerFuse i w).2) : r.1 = .tiltDisagree := by
  unfold steerFuse at h
  dsimp only at h
  split at h
  · split at h
    · rw [List.mem_singleton.mp h]
    · exact absurd h List.not_mem_nil
  · exact absurd h List.not_mem_nil

theorem steerDepth_code {r : Raise} (h : r ∈ (steerDepth i w).2) : r.1 = .depthJump := by
  unfold steerDepth at h
  dsimp only at h
  split at h
  · exact absurd h List.not_mem_nil
  · split_ifs at h <;> first | exact absurd h List.not_mem_nil | rw [List.mem_singleton.mp h]

theorem steerOffsets_code {r : Raise} (h : r ∈ (steerOffsets i w).2) : r.1 = .depthJump := by
  unfold steerOffsets at h
  split at h
  · exact steerDepth_code i _ h
  · exact absurd h List.not_mem_nil

theorem steerStuck_code {r : Raise} (h : r ∈ (steerStuck i w).2) : r.1 = .flapStuck := by
  rcases List.mem_append.mp h with h | h <;> split at h <;>
    first | rw [List.mem_singleton.mp h] | exact absurd h List.not_mem_nil

/-- Raises of one code, as filtered by it and by another. -/
theorem filter_code {l : List Raise} {code : EventCode} (h : ∀ r ∈ l, r.1 = code) (other : EventCode) :
    (l.filter fun r => r.1 == other) = if code = other then l else [] := by
  split
  · next he => exact List.filter_eq_self.mpr fun r hr => beq_iff_eq.mpr ((h r hr).trans he)
  · next hne => exact List.filter_eq_nil_iff.mpr fun r hr he => hne ((h r hr).symm.trans (beq_iff_eq.mp he))

/-- Each stage's raises are those of its code. -/
theorem steerCompute_told :
    ((steerCompute i w).2.filter fun r => r.1 == .tiltDisagree) = (steerFuse i (steerReset i w)).2 ∧
      ((steerCompute i w).2.filter fun r => r.1 == .depthJump) = (steerOffsets i (fusedSteer i w)).2 ∧
      ((steerCompute i w).2.filter fun r => r.1 == .flapStuck) = (steerStuck i (movedSteer i w)).2 := by
  have hfuse := filter_code fun r hr => steerFuse_code i (steerReset i w) (r := r) hr
  have hoffsets := filter_code fun r hr => steerOffsets_code i (fusedSteer i w) (r := r) hr
  have hstuck := filter_code fun r hr => steerStuck_code i (movedSteer i w) (r := r) hr
  rw [steerCompute_raises]
  simp [List.filter_append, hfuse, hoffsets, hstuck]

end Codes

/-! ### Offset reset -/

/-- The offset reset period after stage 1 (R120, R122). -/
def periodHeld (i : SteerInput) (w : Steer) : Option Half :=
  match if w.resetPending = true then some i.now else w.resetPeriod with
  | some p => if 64 ≤ (i.now - p).toNat then none else some p
  | none => none

/-- R122: a pending offset reset clears the offsets, their residues and the depth reference. -/
theorem steerReset_eq (i : SteerInput) (w : Steer) : steerReset i w = { w with
    offX := if w.resetPending = true then 0 else w.offX, offY := if w.resetPending = true then 0 else w.offY
    resX := if w.resetPending = true then 0 else w.resX, resY := if w.resetPending = true then 0 else w.resY
    depthRef := if w.resetPending = true then none else w.depthRef
    resetPending := false, resetPeriod := periodHeld i w } := by
  unfold steerReset periodHeld
  by_cases hpending : w.resetPending = true
  · simp only [hpending, if_true]
    unfold periodAge
    split <;> rfl
  · obtain ⟨fusion, usedX, usedY, offX, offY, resX, resY, depthRef, pending, period⟩ := w
    obtain rfl : pending = false := by simpa using hpending
    cases period with
    | none => rfl
    | some p =>
      simp only [Bool.false_eq_true, if_false]
      unfold periodAge
      split <;> rfl

/-! ### Fusion -/

/-- R114: the peer's tilt is sound. -/
theorem soundPeer_eq_some_iff (i : SteerInput) (p : SteerPart) : soundPeer i = some p ↔
    ∃ c, i.peer = some c ∧ c.part = .steer p ∧ inSet c.flags .sensorFault = false ∧
      (p.fusion = 0 ∨ p.fusion = 1 ∨ p.fusion = 2) := by
  unfold soundPeer
  cases i.peer with
  | none => simp
  | some c =>
    dsimp only
    cases hpart : c.part with
    | steer q =>
      rw [Option.ite_none_right_eq_some]
      constructor
      · rintro ⟨⟨hflag, hfusion⟩, hq⟩
        obtain rfl : q = p := Option.some.inj hq
        exact ⟨c, rfl, hpart, by simpa [PeerContent.sensorFault_eq] using hflag, hfusion⟩
      · rintro ⟨d, hd, hq, hflag, hfusion⟩
        obtain rfl : c = d := Option.some.inj hd
        obtain rfl : q = p := RolePart.steer.inj (hpart.symm.trans hq)
        exact ⟨⟨by simp [PeerContent.sensorFault_eq, hflag], hfusion⟩, rfl⟩
    | none | configFault | wheel | ret => simp [hpart]

theorem soundPeer_eq_none {i : SteerInput} (h : ∀ p, soundPeer i ≠ some p) : soundPeer i = none :=
  Option.eq_none_iff_forall_ne_some.mpr h

/-- R115, R116: 1 for x and 2 for y, each where its axis is outside the agree limit. -/
theorem axesOutside_eq (i : SteerInput) (p : SteerPart) : axesOutside i p =
    (if par i.params 49 < (i.tiltX - p.tiltX.toInt).natAbs then 1 else 0) +
      (if par i.params 49 < (i.tiltY - p.tiltY.toInt).natAbs then 2 else 0) := by
  unfold axesOutside
  rw [mag_eq_natAbs, mag_eq_natAbs]

section Fuse

variable {i : SteerInput} {w : Steer}

/-- Fusion reads the used tilt alone, which an offset reset leaves. -/
theorem fuse_reset (i : SteerInput) (w : Steer) : fuse i (steerReset i w) = fuse i w := by
  rw [steerReset_eq]
  rfl

theorem steerCompute_fused (i : SteerInput) (w : Steer) :
    ((steerCompute i w).1.fusion, (steerCompute i w).1.usedX, (steerCompute i w).1.usedY) = fuse i w := by
  obtain ⟨hfusion, hx, hy⟩ := steerCompute_fusion i w
  rw [hfusion, hx, hy, fuse_reset]

theorem fuse_of_no_peer (h : soundPeer i = none) (w : Steer) :
    fuse i w = if i.tiltValid = true then (.single, i.tiltX, i.tiltY) else (.blind, w.usedX, w.usedY) := by
  rw [fuse, h]

/-- R115, R117: fusion with a sound peer's tilt. -/
theorem fuse_of_peer {p : SteerPart} (h : soundPeer i = some p) (w : Steer) : fuse i w =
    if i.tiltValid = true then
      (if axesOutside i p = 0 then
        (.paired, tiltInRange i.tiltX p.tiltX.toInt (divZero (i.tiltX + p.tiltX.toInt) 2),
          tiltInRange i.tiltY p.tiltY.toInt (divZero (i.tiltY + p.tiltY.toInt) 2))
      else (.disagree, i.tiltX, i.tiltY))
    else (.borrowed, tiltInRange i.tiltX p.tiltX.toInt p.tiltX.toInt, tiltInRange i.tiltY p.tiltY.toInt p.tiltY.toInt) := by
  rw [fuse, h]

theorem tiltInRange_of_within {own reported formed : Int} (h : within (-20000) 20000 formed) :
    tiltInRange own reported formed = formed := by
  refine if_pos ?_
  rw [mag_eq_natAbs]
  unfold within at h
  omega

/-- The mean toward zero of two values lies between their bounds. -/
theorem mean_within {bound a b : Int} (ha : within (-bound) bound a) (hb : within (-bound) bound b) :
    within (-bound) bound ((a + b).tdiv 2) := by
  have hdiv : 2 * (a + b).tdiv 2 + (a + b).tmod 2 = a + b := Int.mul_tdiv_add_tmod (a + b) 2
  have hlow : -2 < (a + b).tmod 2 := Int.lt_tmod_of_pos _ (by decide)
  have hhigh : (a + b).tmod 2 < 2 := Int.tmod_lt_of_pos _ (by decide)
  unfold within at *
  omega

theorem steerFuse_told_of_no_peer (h : soundPeer i = none) (w : Steer) : (steerFuse i (steerReset i w)).2 = [] := by
  simp [steerFuse, h]

/-- TILT DISAGREE is told on entering DISAGREE (R116). -/
theorem steerFuse_told_of_peer {p : SteerPart} (h : soundPeer i = some p) (w : Steer) :
    (steerFuse i (steerReset i w)).2 =
      if (fuse i w).1 = .disagree ∧ w.fusion ≠ .disagree then [(.tiltDisagree, axesOutside i p)] else [] := by
  have hkept : (steerReset i w).fusion = w.fusion := by rw [steerReset_eq]
  simp [steerFuse, h, fuse_reset, hkept]

end Fuse

/-- R114: the peer row is the lowest usable STEER row of the opposite face. -/
theorem State.steerPeer_of_lowest (s : State) :
    let opposite (n : Nat) (c : PeerContent) : Prop := (n, c) ∈ s.usableOf .steer ∧ c.side ≠ s.control.straps.side
    ((∀ n c, ¬ opposite n c) → s.steerPeer = none) ∧
      ∀ n c, opposite n c → (∀ m d, opposite m d → n ≤ m) → s.steerPeer = some c := by
  intro opposite
  have hside (c : PeerContent) : (c.side == otherSide s.control.straps.side) = true ↔ c.side ≠ s.control.straps.side := by
    rw [beq_iff_eq, side_ne_iff]
  refine ⟨fun hnone => ?_, fun n c hmem hlow => ?_⟩
  · have hfind : lowestOf (otherSide s.control.straps.side) (s.usableOf .steer) = none :=
      List.find?_eq_none.mpr fun q hq hc => hnone q.1 q.2 ⟨hq, (hside q.2).mp hc⟩
    rw [State.steerPeer, hfind]
    rfl
  · have hfind : lowestOf (otherSide s.control.straps.side) (s.usableOf .steer) = some (n, c) :=
      (find?_eq_some_iff_lowest (s.usableOf_ascending .steer) _ (n, c)).mpr
        ⟨hmem.1, (hside c).mpr hmem.2, fun q hq hc => hlow q.1 q.2 ⟨hq, (hside q.2).mp hc⟩⟩
    rw [State.steerPeer, hfind]
    rfl

/-- Settles O56: the input reads the rows named, and what fusion decides, by own tilt and a sound peer's, stands to the
end of the compute. -/
theorem fusionFollowsTable : Obligations.FusionFollowsTable := by
  refine ⟨fun s => ?reads, fun i w => ?table⟩
  case reads =>
    intro i valid opposite
    have hvalid (k : Fin 4) : (s.input k).valid = true ↔ valid k := Analog.valid_iff _
    obtain ⟨hnone, hsome⟩ := s.steerPeer_of_lowest
    refine ⟨⟨rfl, rfl, rfl, rfl, rfl, rfl, rfl, rfl, rfl, rfl⟩, beq_iff_eq, ?_, hvalid 2, hvalid 3,
      fun life age d hrow => ?_, hnone, hsome⟩
    · exact Bool.and_eq_true_iff.trans (and_congr (hvalid 0) (hvalid 1))
    · simp [i, State.steerInput, State.demandField, State.demandHeld, hrow, Row.content?]
  case table =>
    intro r told sound
    have hfused : (r.fusion, r.usedX, r.usedY) = fuse i w := steerCompute_fused i w
    have htold : told = (steerFuse i (steerReset i w)).2 := (steerCompute_told i w).1
    have hsound (p : SteerPart) : soundPeer i = some p ↔ sound p := soundPeer_eq_some_iff i p
    refine ⟨fun hnone => ?_, fun p hp => ?_⟩
    · have hpeer := soundPeer_eq_none fun p => (hsound p).not.mpr (hnone p)
      rw [htold, hfused]
      exact ⟨steerFuse_told_of_no_peer hpeer w, fuse_of_no_peer hpeer w⟩
    · have hpeer := (hsound p).mpr hp
      intro x y
      have haxes : axesOutside i p = x + y := axesOutside_eq i p
      have hfusion : (fuse i w).1 = r.fusion := congrArg Prod.fst hfused.symm
      rw [fuse_of_peer hpeer, haxes] at hfused
      refine ⟨?_, ?_, fun hdisagree => ?_, fun hpx hpy hx hy => ⟨fun hpaired => ?_, fun hborrowed => ?_⟩⟩
      · have hfirst := congrArg Prod.fst hfused
        rw [apply_ite Prod.fst, apply_ite Prod.fst] at hfirst
        exact hfirst
      · rw [htold, steerFuse_told_of_peer hpeer, hfusion, haxes]
      · split_ifs at hfused <;> obtain ⟨hf, hux, huy⟩ : _ ∧ _ ∧ _ := by simpa using hfused
        · exact absurd (hf.symm.trans hdisagree) nofun
        · exact ⟨hux, huy⟩
        · exact absurd (hf.symm.trans hdisagree) nofun
      · split_ifs at hfused <;> obtain ⟨hf, hux, huy⟩ : _ ∧ _ ∧ _ := by simpa using hfused
        · rw [hux, huy]
          exact ⟨tiltInRange_of_within (mean_within hx hpx), tiltInRange_of_within (mean_within hy hpy)⟩
        · exact absurd (hf.symm.trans hpaired) nofun
        · exact absurd (hf.symm.trans hpaired) nofun
      · split_ifs at hfused <;> obtain ⟨hf, hux, huy⟩ : _ ∧ _ ∧ _ := by simpa using hfused
        · exact absurd (hf.symm.trans hborrowed) nofun
        · exact absurd (hf.symm.trans hborrowed) nofun
        · rw [hux, huy]
          exact ⟨tiltInRange_of_within hpx, tiltInRange_of_within hpy⟩

/-! ### Averaging and depth step -/

/-- The offsets and the offset reset period after averaging (R120). -/
def averagedOffsets (i : SteerInput) (fusion : Fusion) (offX offY : Int) (period : Option Half) :
    Int × Int × Option Half :=
  match fusion, i.peer.map fun c => (c.sample, c.part) with
  | Fusion.paired, some (sample, RolePart.steer p) =>
    let mean := ((offX + p.offX.toInt).tdiv 2, (offY + p.offY.toInt).tdiv 2, none)
    match period with
    | some q => if (sample - q).toNat < 32768 then mean else (offX, offY, period)
    | none => mean
  | _, _ => (offX, offY, period)

/-- What averaging leaves of a steering state (R120). -/
def Steer.averaged (i : SteerInput) (w : Steer) : Int × Int × Option Half :=
  averagedOffsets i w.fusion w.offX w.offY w.resetPeriod

theorem averageOffset_of_within {own reported : Int} (hown : within (-32000) 32000 own)
    (hreported : within (-32000) 32000 reported) : averageOffset own reported = (own + reported).tdiv 2 := by
  have hmean := mean_within hown hreported
  refine if_pos ?_
  rw [mag_eq_natAbs, divZero]
  unfold within at hmean
  omega

/-- R120: averaging writes the offsets and the offset reset period alone. -/
theorem steerAverage_eq {i : SteerInput} {w : Steer} (hx : within (-32000) 32000 w.offX)
    (hy : within (-32000) 32000 w.offY)
    (hpeer : ∀ c p, i.peer = some c → c.part = .steer p →
      within (-32000) 32000 p.offX.toInt ∧ within (-32000) 32000 p.offY.toInt) :
    steerAverage i w = { w with
      offX := (w.averaged i).1, offY := (w.averaged i).2.1, resetPeriod := (w.averaged i).2.2 } := by
  obtain ⟨fusion, usedX, usedY, offX, offY, resX, resY, depthRef, pending, period⟩ := w
  cases fusion with
  | single | disagree | borrowed | blind => rfl
  | paired =>
    unfold steerAverage Steer.averaged averagedOffsets
    cases hp : i.peer with
    | none => rfl
    | some c =>
      dsimp only [Option.map_some]
      cases hpart : c.part with
      | none | configFault | wheel | ret => rfl
      | steer p =>
        obtain ⟨hpx, hpy⟩ := hpeer c p hp hpart
        dsimp only at hx hy ⊢
        rw [averageOffset_of_within hx hpx, averageOffset_of_within hy hpy]
        cases period with
        | none => rfl
        | some q =>
          dsimp only
          by_cases hlater : (c.sample - q).toNat < 32768
          · rw [if_pos hlater]
            exact if_pos hlater
          · rw [if_neg hlater]
            exact if_neg hlater

theorem steerAverage_resetPending (i : SteerInput) (w : Steer) : (steerAverage i w).resetPending = w.resetPending := by
  unfold steerAverage
  split
  · split
    · dsimp only
      split
      · rfl
      · split <;> rfl
    · rfl
  · rfl

/-- R121: one axis, a thousandth part and its residue, an offset past 32000 cut. -/
theorem integrateAxis_eq (tilt step offset residue : Int) : integrateAxis tilt step offset residue =
    (let p := tilt * step + residue
    let sum := offset + p.tdiv 1000
    if 32000 < sum then (32000, 0) else if sum < -32000 then (-32000, 0) else (sum, p - 1000 * p.tdiv 1000)) := by
  unfold integrateAxis divZero
  dsimp only
  split_ifs <;> first | rfl | omega

section Depth

variable {i : SteerInput} {w : Steer}

/-- R118, R119: no reference, a step back, a jump or BLIND takes the depth alone. -/
theorem steerDepth_of_no_step
    (h : ∀ d, w.depthRef = some d → i.depth < d ∨ par i.params 50 < i.depth - d ∨ w.fusion = .blind) :
    (steerDepth i w).1 = { w with depthRef := some i.depth } := by
  unfold steerDepth
  cases hd : w.depthRef with
  | none => rfl
  | some d =>
    dsimp only
    by_cases hback : i.depth - d < 0
    · rw [if_pos hback]
    · rw [if_neg hback]
      by_cases hjump : par i.params 50 < i.depth - d
      · rw [if_pos hjump]
      · have hblind : w.fusion = .blind := ((h d hd).resolve_left (by omega)).resolve_left hjump
        rw [if_neg hjump, if_pos hblind]

/-- R119, R121: a step from 0 to P50 outside BLIND is integrated on both axes. -/
theorem steerDepth_of_step {d : Int} (hd : w.depthRef = some d) (hle : d ≤ i.depth)
    (hstep : i.depth - d ≤ par i.params 50) (hblind : w.fusion ≠ .blind) :
    (steerDepth i w).1 = { w with
      depthRef := some i.depth
      offX := (integrateAxis w.usedX (i.depth - d) w.offX w.resX).1
      resX := (integrateAxis w.usedX (i.depth - d) w.offX w.resX).2
      offY := (integrateAxis w.usedY (i.depth - d) w.offY w.resY).1
      resY := (integrateAxis w.usedY (i.depth - d) w.offY w.resY).2 } := by
  unfold steerDepth
  rw [hd]
  dsimp only
  rw [if_neg (by omega), if_neg (by omega), if_neg hblind]

/-- The depth becomes the depth reference at every compute under CUT (R118). -/
theorem steerDepth_depthRef (i : SteerInput) (w : Steer) :
    (steerDepth i w).1.depthRef = some i.depth ∧ (steerDepth i w).1.resetPending = w.resetPending := by
  unfold steerDepth
  dsimp only
  split
  · exact ⟨rfl, rfl⟩
  · split_ifs <;> exact ⟨rfl, rfl⟩

/-- R119: DEPTH JUMP is told for a step above P50. -/
theorem steerDepth_told (h : 0 ≤ par i.params 50) : (steerDepth i w).2 = match w.depthRef with
    | some d => if par i.params 50 < i.depth - d then [(.depthJump, i.depth - d)] else []
    | none => [] := by
  unfold steerDepth
  cases w.depthRef with
  | none => rfl
  | some d =>
    dsimp only
    split_ifs <;> first | rfl | omega

end Depth

/-- What stages 1 and 2 leave of offsets, residues and depth reference (R113, R122). -/
theorem fusedSteer_kept (i : SteerInput) (w : Steer) : let f := fusedSteer i w
    f.offX = (if w.resetPending = true then 0 else w.offX) ∧ f.offY = (if w.resetPending = true then 0 else w.offY) ∧
      f.resX = (if w.resetPending = true then 0 else w.resX) ∧ f.resY = (if w.resetPending = true then 0 else w.resY) ∧
      f.depthRef = (if w.resetPending = true then none else w.depthRef) ∧ f.resetPending = false ∧
      f.resetPeriod = periodHeld i w := by
  have hfused : fusedSteer i w = { steerReset i w with
      fusion := (fuse i (steerReset i w)).1, usedX := (fuse i (steerReset i w)).2.1
      usedY := (fuse i (steerReset i w)).2.2 } := rfl
  rw [hfused, steerReset_eq i w]
  exact ⟨rfl, rfl, rfl, rfl, rfl, rfl, rfl⟩

theorem movedSteer_of_not_cut {i : SteerInput} (h : i.mode ≠ .cut) (w : Steer) : movedSteer i w = fusedSteer i w := by
  rw [movedSteer, steerOffsets, if_neg h]

/-- Settles O55: stage 1 and stage 2 leave the state that stage 3 averages and integrates, under CUT alone. -/
theorem depthStepIntegrates : Obligations.DepthStepIntegrates := by
  intro i w hP50 hx hy hpeer r jumps kept reference period
  obtain ⟨hfusion, husedX, husedY, hoffX, hoffY, hresX, hresY, hdepth, hpending, hperiod⟩ := steerCompute_moved i w
  have hjumps : jumps = (steerOffsets i (fusedSteer i w)).2 := (steerCompute_told i w).2.1
  obtain ⟨f, hf⟩ : ∃ f, fusedSteer i w = f := ⟨_, rfl⟩
  obtain ⟨hfx, hfy, hfrx, hfry, hfd, hfp, hfr⟩ : f.offX = kept w.offX ∧ f.offY = kept w.offY ∧ f.resX = kept w.resX ∧
      f.resY = kept w.resY ∧ f.depthRef = reference ∧ f.resetPending = false ∧ f.resetPeriod = period := by
    rw [← hf]
    exact fusedSteer_kept i w
  change r.fusion = _ at hfusion
  change r.usedX = _ at husedX
  change r.usedY = _ at husedY
  change r.offX = _ at hoffX
  change r.offY = _ at hoffY
  change r.resX = _ at hresX
  change r.resY = _ at hresY
  change r.depthRef = _ at hdepth
  change r.resetPending = _ at hpending
  change r.resetPeriod = _ at hperiod
  rw [hpending]
  rw [hf] at hjumps
  by_cases hcut : i.mode = .cut
  case neg =>
    have hmoved : steerOffsets i f = (f, []) := if_neg hcut
    have hstate : movedSteer i w = f := (movedSteer_of_not_cut hcut w).trans hf
    rw [hstate] at hfusion husedX husedY hoffX hoffY hresX hresY hdepth hpending hperiod ⊢
    rw [hjumps, hmoved, hdepth, hperiod, hoffX, hoffY, hresX, hresY]
    exact ⟨hfp, fun _ => ⟨rfl, hfd, hfr, hfx, hfy, hfrx, hfry⟩, fun h => absurd h hcut⟩
  case pos =>
    have hkept {v : Int} (hv : within (-32000) 32000 v) : within (-32000) 32000 (kept v) := by
      simp only [kept]
      split
      · exact ⟨by decide, by decide⟩
      · exact hv
    have haverage := steerAverage_eq (w := f) (hfx ▸ hkept hx) (hfy ▸ hkept hy) hpeer
    have hmoved : steerOffsets i f = steerDepth i (steerAverage i f) := if_pos hcut
    have hstate : movedSteer i w = (steerDepth i (steerAverage i f)).1 := by rw [movedSteer, hf, hmoved]
    obtain ⟨g, hg⟩ : ∃ g, steerAverage i f = g := ⟨_, rfl⟩
    rw [hg] at haverage hmoved hstate
    obtain ⟨hgf, hgx, hgy, hgrx, hgry, hgd, hgp, hgr⟩ : g.fusion = f.fusion ∧ g.offX = (f.averaged i).1 ∧
        g.offY = (f.averaged i).2.1 ∧ g.resX = f.resX ∧ g.resY = f.resY ∧ g.depthRef = f.depthRef ∧
        g.resetPending = f.resetPending ∧ g.resetPeriod = (f.averaged i).2.2 := by
      rw [haverage]
      exact ⟨rfl, rfl, rfl, rfl, rfl, rfl, rfl, rfl⟩
    obtain ⟨hdf, hdx, hdy, hdp⟩ := steerDepth_frame i g
    obtain ⟨hdepthRef, hdpending⟩ := steerDepth_depthRef i g
    rw [hstate] at hfusion husedX husedY hoffX hoffY hresX hresY hdepth hpending hperiod ⊢
    refine ⟨hdpending.trans (hgp.trans hfp), fun h => absurd hcut h, fun _ => ?_⟩
    intro averaged axis
    have hstays : f.averaged i = averagedOffsets i r.fusion (kept w.offX) (kept w.offY) period := by
      rw [Steer.averaged, hfx, hfy, hfr, hfusion.trans (hdf.trans hgf)]
    have haveraged : f.averaged i = averaged := hstays.trans rfl
    have href : g.depthRef = reference := hgd.trans hfd
    rw [haveraged] at hgx hgy hgr
    rw [hfrx] at hgrx
    rw [hfry] at hgry
    refine ⟨hdepth.trans hdepthRef, hperiod.trans (hdp.trans hgr), ?_, fun hnone => ?_, fun d hd hle hstep hblind => ?_⟩
    · have htold := steerDepth_told (i := i) (w := g) hP50
      rw [href] at htold
      rw [hjumps, hmoved]
      exact htold
    · have hstays : (steerDepth i g).1 = { g with depthRef := some i.depth } :=
        steerDepth_of_no_step fun d hd => by
          rw [hgf, ← hgf, ← hdf, ← hfusion]
          exact hnone d (href ▸ hd)
      rw [hoffX, hoffY, hresX, hresY, hstays]
      exact ⟨Prod.ext hgx hgrx, Prod.ext hgy hgry⟩
    · have hstepped := steerDepth_of_step (i := i) (w := g) (href.trans hd) hle hstep
        (by rw [← hdf, ← hfusion]; exact hblind)
      have hux : g.usedX = r.usedX := (husedX.trans hdx).symm
      have huy : g.usedY = r.usedY := (husedY.trans hdy).symm
      rw [hoffX, hoffY, hresX, hresY, hstepped, hgx, hgy, hgrx, hgry, hux, huy]
      exact ⟨integrateAxis_eq _ _ _ _, integrateAxis_eq _ _ _ _⟩

/-! ### Stuck test and demands -/

/-- R125: the stuck test of one flap, by whether its position is valid and off by more than P51. -/
theorem stuckTest_cases (i : SteerInput) (valid : Bool) (applied pos : Int) (count : Nat) (stuck : Bool) :
    let r := stuckTest i valid applied pos count stuck
    let off := par i.params 51 < (applied - pos).natAbs
    (¬ valid = true → r.1 = count ∧ r.2.1 = stuck) ∧ (valid = true → ¬ off → r.1 = 0 ∧ r.2.1 = false) ∧
      (valid = true → off → r.1 = min (parN i.params 52) (count + 1) ∧
        (r.2.1 = true ↔ stuck = true ∨ parN i.params 52 ≤ count + 1)) ∧
      (r.2.2 = true ↔ stuck = false ∧ r.2.1 = true) := by
  have hfull : parN i.params 52 ≤ min (parN i.params 52) (count + 1) ↔ parN i.params 52 ≤ count + 1 := by omega
  unfold stuckTest
  rw [mag_eq_natAbs]
  generalize ((applied - pos).natAbs : Int) = away
  cases valid with
  | false => cases stuck <;> simp
  | true =>
    by_cases h : par i.params 51 < away
    · cases stuck <;> simp [h, satSucc_min, hfull]
    · simp [h]

/-- R123: the flap demands under CUT, each axis's half leaning by the side. -/
theorem cutDemands_eq (i : SteerInput) (w : Steer) :
    let half (offsetGain tiltGain : Nat) (error used : Int) : Int :=
      (max (-1000) (min 1000 ((par i.params offsetGain * error - par i.params tiltGain * used).tdiv 64))).tdiv 2
    let hx := half 44 46 (i.targetX - w.offX) w.usedX
    let hy := half 45 47 (i.targetY - w.offY) w.usedY
    let lean := match i.side with
      | .zero => -hy
      | .one => hy
    cutDemands i w = (max 0 (min 1000 (par i.params 48 + lean + hx)), max 0 (min 1000 (par i.params 48 + lean - hx))) := by
  intro half hx hy lean
  have hhalves : steerHalves i w = (hx, hy) := by
    unfold steerHalves
    rw [clamp_eq_max_min (by decide), clamp_eq_max_min (by decide)]
    rfl
  unfold cutDemands
  rw [hhalves]
  cases hside : i.side with
  | zero =>
    have hlean : lean = -hy := by simp only [lean, hside]
    rw [hlean, ← clamp_eq_max_min (by decide), ← clamp_eq_max_min (by decide)]
    exact congrArg₂ Prod.mk (congrArg _ (by ring)) (congrArg _ (by ring))
  | one =>
    have hlean : lean = hy := by simp only [lean, hside]
    rw [hlean, ← clamp_eq_max_min (by decide), ← clamp_eq_max_min (by decide)]

/-- R124, R125: a stuck flap's demand is its applied value, any other's that of state and mode, formed from the tilt and
the offsets that the compute leaves. -/
theorem steerCompute_flaps (i : SteerInput) (w : Steer) :
    let r := (steerCompute i w).1
    r.flapL = (if r.stuckL = true then i.appliedL else (modeDemands i r).1) ∧
      r.flapR = if r.stuckR = true then i.appliedR else (modeDemands i r).2 := by
  have hhalves (a b : Steer) (hx : a.offX = b.offX) (hy : a.offY = b.offY) (hux : a.usedX = b.usedX)
      (huy : a.usedY = b.usedY) : modeDemands i a = modeDemands i b := by
    simp only [modeDemands, cutDemands, steerHalves, hx, hy, hux, huy]
  have hdemands := hhalves (steerCompute i w).1 (steerStuck i (movedSteer i w)).1 rfl rfl rfl rfl
  intro r
  rw [hdemands]
  exact ⟨rfl, rfl⟩

/-- The stuck counts and conditions. -/
def Steer.stuckPart (w : Steer) : Nat × Bool × Nat × Bool := (w.stuckCountL, w.stuckL, w.stuckCountR, w.stuckR)

/-- Stages 1 to 3 leave the stuck counts and conditions (R113). -/
theorem movedSteer_stuckPart (i : SteerInput) (w : Steer) : (movedSteer i w).stuckPart = w.stuckPart := by
  have haverage (v : Steer) : (steerAverage i v).stuckPart = v.stuckPart := by
    unfold steerAverage
    split
    · split
      · dsimp only
        split
        · rfl
        · split <;> rfl
      · rfl
    · rfl
  have hdepth (v : Steer) : (steerDepth i v).1.stuckPart = v.stuckPart := by
    unfold steerDepth
    dsimp only
    split <;> (try split_ifs) <;> rfl
  have hoffsets (v : Steer) : (steerOffsets i v).1.stuckPart = v.stuckPart := by
    unfold steerOffsets
    split
    · exact (hdepth _).trans (haverage v)
    · rfl
  have hreset : (steerReset i w).stuckPart = w.stuckPart := by rw [steerReset_eq]; rfl
  exact (hoffsets _).trans hreset

/-- What the stuck test of a compute reads and leaves (R125). -/
theorem steerCompute_stuck (i : SteerInput) (w : Steer) :
    let r := (steerCompute i w).1
    let l := stuckTest i i.posLValid i.appliedL i.posL w.stuckCountL w.stuckL
    let m := stuckTest i i.posRValid i.appliedR i.posR w.stuckCountR w.stuckR
    (r.stuckCountL = l.1 ∧ r.stuckL = l.2.1) ∧ (r.stuckCountR = m.1 ∧ r.stuckR = m.2.1) ∧
      ((steerCompute i w).2.filter fun x => x.1 == .flapStuck) =
        (if w.stuckL = false ∧ r.stuckL = true then [(EventCode.flapStuck, (0 : Int))] else []) ++
          if w.stuckR = false ∧ r.stuckR = true then [(.flapStuck, 1)] else [] := by
  have hkept : (movedSteer i w).stuckCountL = w.stuckCountL ∧ (movedSteer i w).stuckL = w.stuckL ∧
      (movedSteer i w).stuckCountR = w.stuckCountR ∧ (movedSteer i w).stuckR = w.stuckR := by
    simpa [Steer.stuckPart] using movedSteer_stuckPart i w
  obtain ⟨hcl, hl, hcr, hr⟩ := hkept
  intro r l m
  have hstuck : steerStuck i (movedSteer i w) = ({ movedSteer i w with
      stuckCountL := l.1, stuckL := l.2.1, stuckCountR := m.1, stuckR := m.2.1 },
      (if l.2.2 = true then [(.flapStuck, 0)] else []) ++ if m.2.2 = true then [(.flapStuck, 1)] else []) := by
    unfold steerStuck
    rw [hcl, hl, hcr, hr]
  have hr : r = steerDemands i (steerStuck i (movedSteer i w)).1 := rfl
  rw [(steerCompute_told i w).2.2, hr, hstuck]
  exact ⟨⟨rfl, rfl⟩, ⟨rfl, rfl⟩, congrArg₂ (· ++ ·)
    (if_congr (stuckTest_cases i i.posLValid i.appliedL i.posL w.stuckCountL w.stuckL).2.2.2 rfl rfl)
    (if_congr (stuckTest_cases i i.posRValid i.appliedR i.posR w.stuckCountR w.stuckR).2.2.2 rfl rfl)⟩

theorem told_ne_nil_iff {p q : Prop} [Decidable p] [Decidable q] {a b : Raise} :
    ((if p then [a] else []) ++ if q then [b] else []) ≠ [] ↔ p ∨ q := by
  by_cases hp : p <;> by_cases hq : q <;> simp [hp, hq]

theorem modeDemands_of_rest {i : SteerInput} (h : ¬ i.active = true ∨ i.mode = .lift) (w : Steer) :
    modeDemands i w = (0, 0) := by
  unfold modeDemands
  split
  · next hactive => rw [h.resolve_left (not_not_intro hactive)]
  · rfl

theorem modeDemands_of_held {i : SteerInput} (hactive : i.active = true) (h : i.mode = .hold ∨ i.mode = .stop)
    (w : Steer) : modeDemands i w = (i.appliedL, i.appliedR) := by
  unfold modeDemands
  rw [if_pos hactive]
  rcases h with h | h <;> rw [h]

theorem modeDemands_of_cut {i : SteerInput} (hactive : i.active = true) (h : i.mode = .cut) (w : Steer) :
    modeDemands i w = cutDemands i w := by
  unfold modeDemands
  rw [if_pos hactive, h]

/-- R166: CUT is in force in ACTIVE alone. -/
theorem State.active_of_cut {s : State} (h : s.modeInForce = .cut) : s.control.station = .active := by
  unfold State.modeInForce at h
  split at h
  · assumption
  · exact absurd h nofun

/-- R122: an offset reset acted on at a compute outside CUT stands to its end. -/
theorem steerCompute_reset {i : SteerInput} {w : Steer} : (steerCompute i w).1.resetPending = false ∧
    (w.resetPending = true → i.mode ≠ .cut →
      let r := (steerCompute i w).1
      r.offX = 0 ∧ r.offY = 0 ∧ r.resX = 0 ∧ r.resY = 0 ∧ r.depthRef = none ∧ r.resetPeriod = some i.now) := by
  obtain ⟨-, -, -, hoffX, hoffY, hresX, hresY, hdepth, hpending, hperiod⟩ := steerCompute_moved i w
  obtain ⟨hfx, hfy, hfrx, hfry, hfd, hfp, hfr⟩ := fusedSteer_kept i w
  refine ⟨hpending.trans ?_, fun hreset hcut => ?_⟩
  · have hoffsets (v : Steer) : (steerOffsets i v).1.resetPending = v.resetPending := by
      unfold steerOffsets
      split
      · exact (steerDepth_depthRef i _).2.trans (steerAverage_resetPending i v)
      · rfl
    exact (hoffsets _).trans hfp
  · have hnow : periodHeld i w = some i.now := by simp [periodHeld, hreset]
    rw [movedSteer_of_not_cut hcut] at hoffX hoffY hresX hresY hdepth hperiod
    rw [if_pos hreset] at hfx hfy hfrx hfry hfd
    exact ⟨hoffX.trans hfx, hoffY.trans hfy, hresX.trans hfrx, hresY.trans hfry, hdepth.trans hfd,
      hperiod.trans (hfr.trans hnow)⟩

/-- The compute of a STEER station, as its steering role sees it. -/
theorem State.ComputesTo.steered {s t : State} (h : s.ComputesTo t) (hrole : s.role = some .steer) :
    ∃ i : SteerInput, i = { t.steerInput with appliedL := s.ch0.applied, appliedR := s.ch1.applied } ∧
      t.steer = (steerCompute i s.steer).1 ∧
      s.raisesOf .flapStuck = (steerCompute i s.steer).2.filter fun r => r.1 == .flapStuck := by
  refine ⟨_, rfl, ?_⟩
  rw [h.steerInput, s.raisesOf_role (by decide) (by decide), h.steer]
  obtain ⟨hsteer, hraises, -⟩ := s.atRole.roleStep_steer hrole
  exact ⟨hsteer, congrArg (List.filter _) hraises⟩

/-- Settles O57: the stuck test, its raises and the demands are those of the role, on the inputs that the compute leaves and
the applied values from before it. -/
theorem flapDemandsByMode : Obligations.FlapDemandsByMode := by
  intro s t running hstation htimer hrole hexec
  have h := State.ComputesTo.of_exec running hstation htimer hexec
  obtain ⟨i, hi, hsteer, hraises⟩ := h.steered hrole
  have hparams : i.params = s.control.params := by rw [hi, ← h.control]; rfl
  have hmode : i.mode = s.modeInForce := by rw [hi]; exact State.modeInForce_congr h.control h.row0
  have hactive : i.active = true ↔ s.control.station = .active := by rw [hi, ← h.control]; exact beq_iff_eq
  have happliedL : i.appliedL = s.ch0.applied := by rw [hi]
  have happliedR : i.appliedR = s.ch1.applied := by rw [hi]
  intro tested beganL beganR pending limited half
  have htested (k : Fin 4) (applied : Int) (count : Nat) (stuck : Bool) : tested k applied count
      (stuckTest i (t.input k).valid applied (t.input k).value count stuck).1 stuck
      (stuckTest i (t.input k).valid applied (t.input k).value count stuck).2.1 := by
    obtain ⟨hinvalid, hpass, hoff, -⟩ := stuckTest_cases i (t.input k).valid applied (t.input k).value count stuck
    simp only [hparams, Analog.valid_iff] at hinvalid hpass hoff
    exact ⟨hinvalid, hpass, hoff⟩
  have hposL : i.posLValid = (t.input 2).valid ∧ i.posL = (t.input 2).value := by rw [hi]; exact ⟨rfl, rfl⟩
  have hposR : i.posRValid = (t.input 3).valid ∧ i.posR = (t.input 3).value := by rw [hi]; exact ⟨rfl, rfl⟩
  obtain ⟨⟨hcountL, hstuckL⟩, ⟨hcountR, hstuckR⟩, htold⟩ := steerCompute_stuck i s.steer
  rw [← hsteer] at hcountL hstuckL hcountR hstuckR htold
  rw [← hraises] at htold
  have hpending : pending t.outbound = pending (s.tellAll s.marker.count (s.raisesOf .flapStuck) s.outbound) :=
    h.pendingOf_notice .flapStuck
  have hflags := h.inSet_flags .flapStuck
  rw [htold] at hpending hflags
  obtain ⟨hflapL, hflapR⟩ := steerCompute_flaps i s.steer
  rw [← hsteer, happliedL] at hflapL
  rw [← hsteer, happliedR] at hflapR
  refine ⟨?_, ?_, ?_, fun hL hR => ?_, fun hR hL => ?_, fun hL hR => ?_, fun hstuck => ?_, fun hstuck => ?_, ?_, ?_, ?_,
    ?_, ?_⟩
  · rw [hcountL, hstuckL, hposL.1, hposL.2, happliedL]
    exact htested 2 _ _ _
  · rw [hcountR, hstuckR, hposR.1, hposR.2, happliedR]
    exact htested 3 _ _ _
  · exact hflags.trans (or_congr_right told_ne_nil_iff)
  · rw [hpending, if_pos hL, if_neg hR]
    rfl
  · rw [hpending, if_neg hL, if_pos hR]
    rfl
  · rw [hpending, if_neg hL, if_neg hR]
    rfl
  · rw [hflapL, if_pos hstuck]
  · rw [hflapR, if_pos hstuck]
  · intro hrest
    have hdemands := modeDemands_of_rest (i := i) (hrest.imp (fun hready => by rw [hactive, hready]; exact nofun)
      hmode.trans) t.steer
    rw [hflapL, hflapR, hdemands]
    exact ⟨fun hl => if_neg (by simp [hl]), fun hr => if_neg (by simp [hr])⟩
  · intro hstate hheld
    have hdemands := modeDemands_of_held (hactive.mpr hstate) (hheld.imp hmode.trans hmode.trans) t.steer
    rw [hflapL, hflapR, hdemands, happliedL, happliedR]
    exact ⟨ite_self _, ite_self _⟩
  · intro life age d hcut hrow hx hy lean
    have hside : i.side = s.control.straps.side := by rw [hi, ← h.control]; rfl
    have htarget : i.targetX = d.targetX ∧ i.targetY = d.targetY := by
      have hrow' : t.row0 = .heard life age d := h.row0.trans hrow
      rw [hi]
      simp [State.steerInput, State.demandField, State.demandHeld, hrow', Row.content?]
    have hdemands : modeDemands i t.steer = (limited (s.param 48 + lean + hx), limited (s.param 48 + lean - hx)) := by
      rw [modeDemands_of_cut (hactive.mpr (State.active_of_cut hcut)) (hmode.trans hcut), cutDemands_eq]
      dsimp only
      rw [hparams, htarget.1, htarget.2, hside]
      rfl
    rw [hflapL, hflapR, hdemands]
    exact ⟨fun hl => if_neg (by simp [hl]), fun hr => if_neg (by simp [hr])⟩
  · rw [hsteer]
    exact steerCompute_reset.1
  · intro hreset hcut
    have hnow : i.now = s.marker.count := by rw [hi, ← h.count]; rfl
    rw [hsteer, ← hnow]
    exact steerCompute_reset.2 hreset (hmode.trans_ne hcut)

end Sys2Proof.Machine

/-! ## The slurry return

The required flow and one compute of the return by its stages (R130 to R143), and the settlements of O58 and O59. -/

namespace Sys2Proof.Machine

/-! ### The demand -/

theorem effectiveLimit_eq (i : ReturnInput) : effectiveLimit i =
    if i.densityLimit < i.freshDensity + 20 then i.freshDensity + 20 else i.densityLimit := by
  unfold effectiveLimit
  split <;> omega

/-- Settles O58: the quotient rounded up lies within one divisor of the numerator, and the cap takes it where the numerator
passes the cap's product. -/
theorem requiredFlowRoundsUp : Obligations.RequiredFlowRoundsUp := by
  intro i hspeed hrate hsolids limit n d q
  have hlimit : effectiveLimit i = limit := effectiveLimit_eq i
  have hd : 0 < d := by
    have hpos : 20 ≤ limit - i.freshDensity := by
      simp only [limit]
      split <;> omega
    simp only [d]
    omega
  have hn : 0 ≤ n := mul_nonneg (mul_nonneg (mul_nonneg hspeed hrate) (by decide)) (by omega)
  have hq : q = min 65535 (divUp n d) := by simp only [q, requiredFlow, hlimit, n, d]
  obtain ⟨hreach, hleast⟩ := divUp_spec hn hd
  refine ⟨hd, by omega, fun hfits => ?_, fun hover => ?_⟩
  · have hcap : divUp n d ≤ 65535 := by
      by_contra hgt
      have hmul : 65535 * d ≤ (divUp n d - 1) * d := mul_le_mul_of_nonneg_right (by omega) hd.le
      omega
    rw [hq, min_eq_right hcap]
    exact ⟨hreach, hleast⟩
  · have hgt : 65535 < divUp n d := lt_of_mul_lt_mul_right (hover.trans_le hreach) hd.le
    rw [hq, min_eq_left hgt.le]

/-- R133: the trim that a compute moves. -/
theorem movedTrim_eq (i : ReturnInput) (w : Return) : movedTrim i w =
    (let moves := i.mode = .cut ∧ (w.state = .running ∨ w.state = .limited ∨ w.state = .blocked) ∧ i.densityValid = true
    if moves ∧ effectiveLimit i < i.density then min (w.trim + 10) (par i.params 56)
    else if moves ∧ i.density ≤ effectiveLimit i - 10 then max 0 (w.trim - 1) else w.trim) := by
  unfold movedTrim
  by_cases hmoves : i.mode = .cut ∧ (w.state = .running ∨ w.state = .limited ∨ w.state = .blocked) ∧ i.densityValid = true
  · rw [if_pos hmoves, max_comm (w.trim - 1) 0]
    exact if_congr (by simp [hmoves]) rfl (if_congr (by simp [hmoves]) rfl rfl)
  · rw [if_neg hmoves]
    exact ((if_neg fun h => hmoves h.1).trans (if_neg fun h => hmoves h.1)).symm

section Demand

variable {i : ReturnInput} (hmode : i.mode ≠ .stop)
include hmode

/-- R134: the uncapped demand outside STOP. -/
theorem uncappedDemand_eq (trim : Int) : uncappedDemand i trim =
    if i.mode = .cut then min 65535 (max (requiredFlow i) (par i.params 55) + trim) else par i.params 55 := by
  unfold uncappedDemand
  cases h : i.mode with
  | stop => exact absurd h hmode
  | cut | hold | lift => rfl

/-- R134: the running target outside STOP is the demand, capped at the maximum flow. -/
theorem runningTarget_eq (hbounds : par i.params 55 ≤ par i.params 56) (trim : Int) :
    runningTarget i trim = min (uncappedDemand i trim) (par i.params 56) := by
  unfold runningTarget uncappedDemand
  cases h : i.mode with
  | stop => exact absurd h hmode
  | cut => rfl
  | hold | lift => exact (min_eq_left hbounds).symm

theorem runningTarget_within (hbounds : par i.params 55 ≤ par i.params 56) (hmax : par i.params 56 ≤ 9999) {trim : Int}
    (htrim : 0 ≤ trim) : within (par i.params 55) (par i.params 56) (runningTarget i trim) := by
  rw [runningTarget_eq hmode hbounds, uncappedDemand_eq hmode]
  unfold within
  split <;> omega

end Demand

/-! ### The transition -/

/-- The return before the transition of a compute: its trim moved (R133). -/
def Return.trimmed (i : ReturnInput) (w : Return) : Return := { w with trim := movedTrim i w }

/-- What the transition of a compute outside STOP leaves (R130). -/
structure Return.Moved (i : ReturnInput) (w x : Return) : Prop where
  running : x.state ≠ .idle
  trim : x.trim = if w.state = .idle then 0 else movedTrim i w
  u : x.u = if w.state = .idle then 0 else w.u
  residue : x.residue = if w.state = .idle then 0 else w.residue
  cavitating : x.cavitating = (w.cavitating && w.state != .idle)

section Transition

variable {i : ReturnInput} {w : Return}

theorem returnTransition_of_idle (hmode : i.mode ≠ .stop) (h : w.state = .idle) :
    returnTransition i (w.trimmed i) = ({ returnIdle (w.trimmed i) with state := .priming, primeCount := 1 }, []) := by
  have hstate : (w.trimmed i).state = .idle := h
  rw [returnTransition, if_neg hmode, hstate]

theorem returnTransition_of_invalid (hmode : i.mode ≠ .stop) (h : w.state ≠ .idle) (hflow : i.flowValid = false) :
    returnTransition i (w.trimmed i) = (w.trimmed i, []) := by
  have hstate : (w.trimmed i).state = w.state := rfl
  rw [returnTransition, if_neg hmode, hstate, hflow]
  cases hw : w.state with
  | idle => exact absurd hw h
  | priming | running | limited | blocked => rfl

theorem returnTransition_of_priming (hmode : i.mode ≠ .stop) (h : w.state = .priming) (hflow : i.flowValid = true) :
    returnTransition i (w.trimmed i) = returnPriming i (w.trimmed i) := by
  have hstate : (w.trimmed i).state = .priming := h
  rw [returnTransition, if_neg hmode, hstate, hflow]
  rfl

theorem returnTransition_of_running (hmode : i.mode ≠ .stop) (h : w.state = .running ∨ w.state = .limited)
    (hflow : i.flowValid = true) : returnTransition i (w.trimmed i) = returnRunning i (w.trimmed i) := by
  have hstate : (w.trimmed i).state = w.state := rfl
  rw [returnTransition, if_neg hmode, hstate, hflow]
  rcases h with h | h <;> rw [h] <;> rfl

theorem returnTransition_of_blocked (hmode : i.mode ≠ .stop) (h : w.state = .blocked) (hflow : i.flowValid = true) :
    returnTransition i (w.trimmed i) = (returnBlockedState i (w.trimmed i), []) := by
  have hstate : (w.trimmed i).state = .blocked := h
  rw [returnTransition, if_neg hmode, hstate, hflow]
  rfl

/-- A return out of IDLE that keeps trim, output and cavitation condition has moved. -/
theorem Return.Moved.of_kept {x : Return} (h : w.state ≠ .idle) (hstate : x.state ≠ .idle)
    (htrim : x.trim = (w.trimmed i).trim) (hu : x.u = w.u) (hresidue : x.residue = w.residue)
    (hcavitating : x.cavitating = w.cavitating) : w.Moved i x where
  running := hstate
  trim := by rw [if_neg h]; exact htrim
  u := by rw [if_neg h]; exact hu
  residue := by rw [if_neg h]; exact hresidue
  cavitating := by simp [h, hcavitating]

theorem returnPriming_moved (h : w.state = .priming) : w.Moved i (returnPriming i (w.trimmed i)).1 := by
  have hidle : w.state ≠ .idle := by simp [h]
  have hkept : (w.trimmed i).state ≠ .idle := hidle
  unfold returnPriming
  dsimp only
  split_ifs <;> exact .of_kept hidle (by simp [returnRun, returnBlock, hkept]) rfl rfl rfl rfl

theorem returnRunning_moved (h : w.state = .running ∨ w.state = .limited) :
    w.Moved i (returnRunning i (w.trimmed i)).1 := by
  have hidle : w.state ≠ .idle := by rcases h with h | h <;> simp [h]
  have hkept : (w.trimmed i).state ≠ .idle := hidle
  unfold returnRunning
  dsimp only
  split_ifs <;> exact .of_kept hidle (by simp [returnBlock, hkept]) rfl rfl rfl rfl

theorem returnBlockedState_moved (h : w.state = .blocked) : w.Moved i (returnBlockedState i (w.trimmed i)) := by
  have hidle : w.state ≠ .idle := by simp [h]
  have hkept : (w.trimmed i).state ≠ .idle := hidle
  unfold returnBlockedState
  dsimp only
  split_ifs <;> exact .of_kept hidle (by simp [returnRun, hkept]) rfl rfl rfl rfl

/-- R130: outside STOP the transition leaves a running state, and trim, output and cavitation condition as they stood, at
0 out of IDLE. -/
theorem returnTransition_moved (hmode : i.mode ≠ .stop) : w.Moved i (returnTransition i (w.trimmed i)).1 := by
  by_cases hidle : w.state = .idle
  · rw [returnTransition_of_idle hmode hidle]
    exact ⟨nofun, (if_pos hidle).symm, (if_pos hidle).symm, (if_pos hidle).symm, by simp [returnIdle, hidle]⟩
  cases hflow : i.flowValid with
  | false =>
    rw [returnTransition_of_invalid hmode hidle hflow]
    exact .of_kept hidle hidle rfl rfl rfl rfl
  | true =>
    cases h : w.state with
    | idle => exact absurd h hidle
    | priming =>
      rw [returnTransition_of_priming hmode h hflow]
      exact returnPriming_moved h
    | running =>
      rw [returnTransition_of_running hmode (.inl h) hflow]
      exact returnRunning_moved (.inl h)
    | limited =>
      rw [returnTransition_of_running hmode (.inr h) hflow]
      exact returnRunning_moved (.inr h)
    | blocked =>
      rw [returnTransition_of_blocked hmode h hflow]
      exact returnBlockedState_moved h

end Transition

/-! ### Cavitation, flow target and pump output -/

/-- The return after stages 3 to 5 of a compute (R130). -/
def returnFinish (i : ReturnInput) (x : Return) : Return := returnPump i (returnTarget i (returnCavitation i x).1)

theorem returnCompute_eq (i : ReturnInput) (w : Return) : returnCompute i w =
    (returnFinish i (returnTransition i (w.trimmed i)).1,
      (returnTransition i (w.trimmed i)).2 ++ (returnCavitation i (returnTransition i (w.trimmed i)).1).2) := rfl

/-- State, trim, counts and runs of the return. -/
def Return.standing (w : Return) : ReturnState × Int × Nat × Nat × Nat × Nat × Nat :=
  (w.state, w.trim, w.primeCount, w.primeRun, w.limitedExit, w.blockedRun, w.clearRun)

section Finish

variable {i : ReturnInput} {x : Return}

/-- R141: the cavitation condition of a running return, with hysteresis, held on an invalid suction. -/
theorem returnCavitation_eq (h : x.state ≠ .idle) (hP59 : 0 ≤ par i.params 59) :
    let holds := if i.suctionValid = false then x.cavitating
      else if i.suction < par i.params 58 then true
      else if par i.params 58 + par i.params 59 ≤ i.suction then false else x.cavitating
    returnCavitation i x = ({ x with cavitating := holds },
      if holds = true ∧ x.cavitating = false then [(.cavitation, i.suction)] else []) := by
  intro holds
  have hholds : holds = if i.suctionValid = false then x.cavitating
      else if i.suction < par i.params 58 then true
      else if par i.params 58 + par i.params 59 ≤ i.suction then false else x.cavitating := rfl
  have hkept : { x with cavitating := x.cavitating } = x := rfl
  unfold returnCavitation
  rw [if_neg h]
  cases hvalid : i.suctionValid with
  | false =>
    have he : holds = x.cavitating := by rw [hholds, if_pos hvalid]
    rw [he]
    simp
  | true =>
    rw [if_neg (by simp [hvalid])] at hholds
    by_cases hlow : i.suction < par i.params 58
    · rw [if_pos hlow] at hholds
      have hhigh : ¬ par i.params 58 + par i.params 59 ≤ i.suction := by omega
      rw [hholds]
      cases hc : x.cavitating with
      | false => simp [hlow]
      | true =>
        have hkept : { x with cavitating := true } = x := by rw [← hc]
        simp [hhigh, hkept]
    · rw [if_neg hlow] at hholds
      rw [hholds]
      by_cases hhigh : par i.params 58 + par i.params 59 ≤ i.suction
      · simp [hlow, hhigh]
      · simp [hlow, hhigh]

theorem returnPump_frame (i : ReturnInput) (x : Return) : returnPump i x =
    { x with u := (returnPump i x).u, residue := (returnPump i x).residue } := by
  unfold returnPump
  split_ifs <;> rfl

theorem returnCavitation_frame (i : ReturnInput) (x : Return) :
    (returnCavitation i x).1 = { x with cavitating := (returnCavitation i x).1.cavitating } := by
  unfold returnCavitation
  split_ifs <;> rfl

/-- Stages 3 to 5 leave state, trim, counts and runs (R130). -/
theorem returnFinish_standing (i : ReturnInput) (x : Return) : (returnFinish i x).standing = x.standing := by
  rw [returnFinish, returnPump_frame, returnCavitation_frame]
  rfl

theorem returnFinish_cavitating (i : ReturnInput) (x : Return) :
    (returnFinish i x).cavitating = (returnCavitation i x).1.cavitating := by
  rw [returnFinish, returnPump_frame]
  rfl

/-- R134: the flow target of a running state. -/
theorem returnFinish_flowTarget (h : x.state ≠ .idle) : (returnFinish i x).flowTarget =
    if x.state = .priming then par i.params 55 else runningTarget i x.trim := by
  have htarget : (returnFinish i x).flowTarget = (returnTarget i (returnCavitation i x).1).flowTarget := by
    rw [returnFinish, returnPump_frame]
  rw [htarget, returnCavitation_frame]
  unfold returnTarget
  cases hx : x.state with
  | idle => exact absurd hx h
  | priming | running | limited | blocked => rfl

/-- R135, R142, R143: the pump output of a running state. -/
theorem returnFinish_pump (h : x.state ≠ .idle) : let r := returnFinish i x
    (r.u, r.residue) = if r.cavitating = true then (max 0 (x.u - 5), 0)
      else if i.flowValid = false then (x.u, x.residue)
      else integralStep (par i.params 57) (r.flowTarget - i.flow) (par i.params 26) x.u x.residue := by
  obtain ⟨y, hy⟩ : ∃ y, returnTarget i (returnCavitation i x).1 = y := ⟨_, rfl⟩
  obtain ⟨hstate, hu, hresidue⟩ : y.state = x.state ∧ y.u = x.u ∧ y.residue = x.residue := by
    rw [← hy, returnCavitation_frame]
    exact ⟨rfl, rfl, rfl⟩
  have hfinish : returnFinish i x = returnPump i y := by rw [returnFinish, hy]
  have hidle : ¬ y.state = .idle := hstate ▸ h
  intro r
  have hcavitating : r.cavitating = y.cavitating := by
    simp only [r, hfinish]
    rw [returnPump_frame]
  have htarget : r.flowTarget = y.flowTarget := by
    simp only [r, hfinish]
    rw [returnPump_frame]
  rw [hcavitating, htarget, ← hu, ← hresidue]
  simp only [r, hfinish]
  unfold returnPump
  rw [if_neg hidle]
  cases y.cavitating <;> cases i.flowValid <;> rfl

/-- What stages 3 to 5 of a compute outside STOP leave of a moved return `x` with raises `l` (R130). -/
structure Return.Finished (i : ReturnInput) (x : Return) (l : List Raise) (r : Return) (raises : List Raise) : Prop where
  standing : r.state = x.state ∧ r.trim = x.trim ∧ r.primeCount = x.primeCount ∧ r.primeRun = x.primeRun ∧
    r.limitedExit = x.limitedExit ∧ r.blockedRun = x.blockedRun ∧ r.clearRun = x.clearRun
  flowTarget : r.flowTarget = if x.state = .priming then par i.params 55 else runningTarget i x.trim
  cavitating : r.cavitating = if i.suctionValid = false then x.cavitating
    else if i.suction < par i.params 58 then true
    else if par i.params 58 + par i.params 59 ≤ i.suction then false else x.cavitating
  told : raises = l ++ if r.cavitating = true ∧ x.cavitating = false then [(.cavitation, i.suction)] else []
  pump : (r.u, r.residue) = if r.cavitating = true then (max 0 (x.u - 5), 0)
    else if i.flowValid = false then (x.u, x.residue)
    else integralStep (par i.params 57) (r.flowTarget - i.flow) (par i.params 26) x.u x.residue

theorem returnFinish_finished (h : x.state ≠ .idle) (hP59 : 0 ≤ par i.params 59) (l : List Raise) :
    x.Finished i l (returnFinish i x) (l ++ (returnCavitation i x).2) := by
  have hcavitation := returnCavitation_eq h hP59
  have hcavitating : (returnFinish i x).cavitating = _ :=
    (returnFinish_cavitating i x).trans (congrArg (fun c : Return × List Raise => c.1.cavitating) hcavitation)
  refine ⟨by simpa [Return.standing] using returnFinish_standing i x, returnFinish_flowTarget h, hcavitating, ?_,
    returnFinish_pump h⟩
  rw [hcavitating, hcavitation]

end Finish

/-! ### The table of the transitions -/

section Table

variable (i : ReturnInput) (w : Return)

/-- R137: a compute in PRIMING with a valid flow. -/
theorem returnPriming_table :
    let x := (returnPriming i w).1
    let told := (returnPriming i w).2
    let run := if par i.params 55 * 8 ≤ i.flow * 10 then w.primeRun + 1 else 0
    x.primeRun = run ∧ x.primeCount = min (parN i.params 60) (w.primeCount + 1) ∧
      (5 ≤ run → told = [] ∧ x.state = .running ∧ x.limitedExit = 0 ∧ x.blockedRun = 0) ∧
      (run < 5 → parN i.params 60 ≤ w.primeCount + 1 →
        told = [(EventCode.returnBlocked, i.flow)] ∧ x.state = .blocked ∧ x.clearRun = 0) ∧
      (run < 5 → w.primeCount + 1 < parN i.params 60 → told = [] ∧ x.state = w.state) := by
  have hfull : parN i.params 60 ≤ satSucc (parN i.params 60) w.primeCount ↔ parN i.params 60 ≤ w.primeCount + 1 := by
    rw [satSucc_min]
    omega
  intro x told run
  obtain ⟨hx, htold⟩ : x = (returnPriming i w).1 ∧ told = (returnPriming i w).2 := ⟨rfl, rfl⟩
  unfold returnPriming at hx htold
  dsimp only at hx htold
  by_cases hrun : 5 ≤ run
  · rw [if_pos hrun] at hx htold
    rw [hx, htold]
    exact ⟨rfl, satSucc_min _ _, fun _ => ⟨rfl, rfl, rfl, rfl⟩, fun h => absurd hrun h.not_ge,
      fun h => absurd hrun h.not_ge⟩
  · rw [if_neg hrun] at hx htold
    by_cases hcount : parN i.params 60 ≤ w.primeCount + 1
    · rw [if_pos (hfull.mpr hcount)] at hx htold
      rw [hx, htold]
      exact ⟨rfl, satSucc_min _ _, fun h => absurd h hrun, fun _ _ => ⟨rfl, rfl, rfl⟩,
        fun _ h => absurd hcount h.not_ge⟩
    · rw [if_neg (hfull.not.mpr hcount)] at hx htold
      rw [hx, htold]
      exact ⟨rfl, satSucc_min _ _, fun h => absurd h hrun, fun _ h => absurd h hcount, fun _ _ => ⟨rfl, rfl⟩⟩

/-- R138, R139: a compute in RUNNING or LIMITED with a valid flow. -/
theorem returnRunning_table (h : w.state = .running ∨ w.state = .limited) :
    let x := (returnRunning i w).1
    let told := (returnRunning i w).2
    let demand := uncappedDemand i w.trim
    let run := if 900 ≤ w.u ∧ i.flow * 5 ≤ runningTarget i w.trim then w.blockedRun + 1 else 0
    let exit := if demand ≤ par i.params 56 then w.limitedExit + 1 else 0
    x.blockedRun = run ∧
      (parN i.params 61 ≤ run → told = [(EventCode.returnBlocked, i.flow)] ∧ x.state = .blocked ∧ x.clearRun = 0) ∧
      (run < parN i.params 61 → w.state = .running → par i.params 56 < demand →
        told = [(EventCode.returnLimited, demand)] ∧ x.state = .limited ∧ x.limitedExit = 0) ∧
      (run < parN i.params 61 → w.state = .running → demand ≤ par i.params 56 → told = [] ∧ x.state = .running) ∧
      (run < parN i.params 61 → w.state = .limited → told = [] ∧ x.limitedExit = exit ∧
        x.state = if 10 ≤ exit then .running else .limited) := by
  intro x told demand run exit
  obtain ⟨hx, htold⟩ : x = (returnRunning i w).1 ∧ told = (returnRunning i w).2 := ⟨rfl, rfl⟩
  unfold returnRunning at hx htold
  dsimp only at hx htold
  by_cases hrun : parN i.params 61 ≤ run
  · rw [if_pos hrun] at hx htold
    rw [hx, htold]
    exact ⟨rfl, fun _ => ⟨rfl, rfl, rfl⟩, fun h => absurd hrun h.not_ge, fun h => absurd hrun h.not_ge,
      fun h => absurd hrun h.not_ge⟩
  rw [if_neg hrun] at hx htold
  rcases h with h | h
  · rw [if_pos h] at hx htold
    by_cases hover : par i.params 56 < demand
    · rw [if_pos hover] at hx htold
      rw [hx, htold]
      exact ⟨rfl, fun h => absurd h hrun, fun _ _ _ => ⟨rfl, rfl, rfl⟩, fun _ _ h => absurd hover h.not_gt,
        fun _ hl => absurd (h.symm.trans hl) nofun⟩
    · rw [if_neg hover] at hx htold
      rw [hx, htold]
      exact ⟨rfl, fun h => absurd h hrun, fun _ _ h => absurd h hover, fun _ _ _ => ⟨rfl, h⟩,
        fun _ hl => absurd (h.symm.trans hl) nofun⟩
  · have hother : w.state ≠ .running := by simp [h]
    rw [if_neg hother] at hx htold
    by_cases hexit : 10 ≤ exit
    · rw [if_pos hexit] at hx htold
      rw [hx, htold]
      exact ⟨rfl, fun h => absurd h hrun, fun _ hr => absurd hr hother, fun _ hr => absurd hr hother,
        fun _ _ => ⟨rfl, rfl, (if_pos hexit).symm⟩⟩
    · rw [if_neg hexit] at hx htold
      rw [hx, htold]
      exact ⟨rfl, fun h => absurd h hrun, fun _ hr => absurd hr hother, fun _ hr => absurd hr hother,
        fun _ _ => ⟨rfl, rfl, h.trans (if_neg hexit).symm⟩⟩

/-- R140: a compute in BLOCKED with a valid flow. -/
theorem returnBlockedState_table :
    let x := returnBlockedState i w
    let run := if runningTarget i w.trim ≤ i.flow * 2 then w.clearRun + 1 else 0
    x.clearRun = run ∧ (run < 10 → x.state = w.state) ∧
      (10 ≤ run → x.state = .running ∧ x.limitedExit = 0 ∧ x.blockedRun = 0) := by
  intro x run
  have hx : x = returnBlockedState i w := rfl
  unfold returnBlockedState at hx
  dsimp only at hx
  by_cases hrun : 10 ≤ run
  · rw [if_pos hrun] at hx
    rw [hx]
    exact ⟨rfl, fun h => absurd hrun h.not_ge, fun _ => ⟨rfl, rfl, rfl⟩⟩
  · rw [if_neg hrun] at hx
    rw [hx]
    exact ⟨rfl, fun _ => rfl, fun h => absurd h hrun⟩

end Table

/-- R136: under STOP a compute leaves the power-on values. -/
theorem returnCompute_of_stop {i : ReturnInput} (h : i.mode = .stop) (w : Return) :
    returnCompute i w = (Return.reset, []) := by
  have hmoved : returnTransition i (w.trimmed i) = (returnIdle (w.trimmed i), []) := if_pos h
  rw [returnCompute_eq, hmoved]
  rfl

/-- Settles O59: outside STOP the transition of the starting state leaves a running state, which stages 3 to 5 finish. -/
theorem returnFollowsTable : Obligations.ReturnFollowsTable := by
  refine ⟨fun s => ?reads, fun i w hlow hbounds hmax hband hstanding => ?table⟩
  case reads =>
    refine ⟨⟨rfl, rfl, rfl, rfl, rfl⟩, Analog.valid_iff _, Analog.valid_iff _, Analog.valid_iff _,
      fun life age d hrow => ?_⟩
    simp [State.returnInput, State.demandField, State.demandHeld, hrow, Row.content?]
  case table =>
    intro r raises limit moves trim demand goal began told runs
    by_cases hmode : i.mode = .stop
    · have hr : r = Return.reset := congrArg Prod.fst (returnCompute_of_stop hmode w)
      have hraises : raises = [] := congrArg Prod.snd (returnCompute_of_stop hmode w)
      exact ⟨fun _ => ⟨hraises, hr⟩, fun h => absurd hmode h, fun h => absurd hmode h, fun h => absurd hmode h,
        fun h => absurd hmode h, fun h => absurd hmode h, fun h => absurd hmode h, fun h => absurd hmode h,
        fun h => absurd hmode h⟩
    have htrim : movedTrim i w = trim := by rw [movedTrim_eq, effectiveLimit_eq]
    have hdemand : uncappedDemand i trim = demand := uncappedDemand_eq hmode trim
    have hgoal : runningTarget i trim = goal := by rw [runningTarget_eq hmode hbounds, hdemand]
    have hpos : 0 ≤ trim := by
      simp only [trim]
      split_ifs <;> omega
    have hmoved := returnTransition_moved (w := w) hmode
    obtain ⟨x, hx⟩ : ∃ x, (returnTransition i (w.trimmed i)).1 = x := ⟨_, rfl⟩
    obtain ⟨l, hl⟩ : ∃ l, (returnTransition i (w.trimmed i)).2 = l := ⟨_, rfl⟩
    rw [hx] at hmoved
    have hfinished : x.Finished i l r raises := by
      have hr : r = returnFinish i x := by simp only [r, returnCompute_eq, hx]
      have hraises : raises = l ++ (returnCavitation i x).2 := by simp only [raises, returnCompute_eq, hx, hl]
      rw [hr, hraises]
      exact returnFinish_finished hmoved.running hband l
    obtain ⟨hstate, hrtrim, hcount, hprime, hexit, hblocked, hclear⟩ := hfinished.standing
    have hpump := hfinished.pump
    have hcavitating := hfinished.cavitating
    rw [hmoved.u, hmoved.residue] at hpump
    rw [hmoved.cavitating] at hcavitating
    have hfresh : x.cavitating = false ↔ w.cavitating = false ∨ w.state = .idle := by
      rw [hmoved.cavitating, Bool.and_eq_false_iff, bne_eq_false_iff_eq]
    have htold (l' : List Raise) (hl' : l = l') : told l' :=
      hl' ▸ hfinished.told.trans (congrArg _ (if_congr (and_congr_right' hfresh) rfl rfl))
    have htrimx : x.trim = if w.state = .idle then 0 else trim := by rw [hmoved.trim, htrim]
    have htrimmed : (w.trimmed i).trim = trim := htrim
    refine ⟨fun h => absurd h hmode, fun _ => ⟨hrtrim.trans htrimx, ?_, ?_⟩, fun _ h => ?_, fun _ h hflow => ?_,
      fun _ h hflow => ?_, fun _ h hflow => ?_, fun _ h hflow => ?_, fun _ => hcavitating, fun _ => hpump⟩
    · rw [hfinished.flowTarget]
      split
      · exact ⟨le_rfl, hbounds⟩
      · refine runningTarget_within hmode hbounds hmax ?_
        rw [htrimx]
        split <;> omega
    · rw [hfinished.flowTarget, hstate]
      by_cases hidle : w.state = .idle
      · rw [returnTransition_of_idle hmode hidle] at hx
        rw [← hx]
        rfl
      · rw [htrimx, if_neg hidle, hgoal]
    · rw [returnTransition_of_idle hmode h] at hx hl
      refine ⟨htold [] hl.symm, ?_, ?_⟩
      · rw [hstate, ← hx]
      · simp only [runs, hcount, hprime, hexit, hblocked, hclear, ← hx]
        rfl
    · rw [returnTransition_of_invalid hmode h hflow] at hx hl
      refine ⟨htold [] hl.symm, ?_, ?_⟩
      · rw [hstate, ← hx]
        rfl
      · simp only [runs, hcount, hprime, hexit, hblocked, hclear, ← hx]
        rfl
    · rw [returnTransition_of_priming hmode h hflow] at hx hl
      obtain ⟨hrun, hcounted, hruns, hblocks, hstays⟩ := returnPriming_table i (w.trimmed i)
      rw [hx] at hrun hcounted hruns hblocks hstays
      rw [hl] at hruns hblocks hstays
      rw [hprime, hcount, hstate, hexit, hblocked, hclear]
      refine ⟨hrun, hcounted, fun h5 => ?_, fun h5 h60 => ?_, fun h5 h60 => ?_⟩
      · obtain ⟨hnone, hrest⟩ := hruns h5
        exact ⟨htold [] hnone, hrest⟩
      · obtain ⟨hone, hrest⟩ := hblocks h5 h60
        exact ⟨htold _ hone, hrest⟩
      · obtain ⟨hnone, hrest⟩ := hstays h5 h60
        exact ⟨htold [] hnone, hrest.trans h⟩
    · rw [returnTransition_of_running hmode h hflow] at hx hl
      obtain ⟨hrun, hblocks, hlimits, hruns, hlimited⟩ := returnRunning_table i (w.trimmed i) h
      rw [hx, htrimmed, hgoal] at hrun
      rw [hx, hl, htrimmed, hgoal] at hblocks
      rw [hx, hl, htrimmed, hgoal, hdemand] at hlimits hruns hlimited
      rw [hstate, hexit, hblocked, hclear]
      refine ⟨hrun, fun h61 => ?_, fun h61 hs hover => ?_, fun h61 hs hunder => ?_, fun h61 hs => ?_⟩
      · obtain ⟨hone, hrest⟩ := hblocks h61
        exact ⟨htold _ hone, hrest⟩
      · obtain ⟨hone, hrest⟩ := hlimits h61 hs hover
        exact ⟨htold _ hone, hrest⟩
      · obtain ⟨hnone, hrest⟩ := hruns h61 hs hunder
        exact ⟨htold [] hnone, hrest⟩
      · obtain ⟨hnone, hrest⟩ := hlimited h61 hs
        exact ⟨htold [] hnone, hrest⟩
    · rw [returnTransition_of_blocked hmode h hflow] at hx hl
      obtain ⟨hrun, hstays, hruns⟩ := returnBlockedState_table i (w.trimmed i)
      rw [htrimmed, hgoal] at hrun hstays hruns
      rw [show returnBlockedState i (w.trimmed i) = x from hx] at hrun hstays hruns
      rw [hstate, hexit, hblocked, hclear]
      exact ⟨htold [] hl.symm, hrun, fun h10 => (hstays h10).trans h, hruns⟩

end Sys2Proof.Machine

/-! ## The frame line

Telegrams read back from their levels (R1, R3 to R5, R16), and two telegrams that start together (R7, R9), and the
settlements of O45 and O46. -/

namespace Sys2Proof.Machine

/-! ### Fields of a telegram -/

theorem ofBytes2_halfBytes (h : Half) : ofBytes2 (h.extractLsb' 8 8) (h.extractLsb' 0 8) = h := by
  rw [ofBytes2, BitVec.extractLsb'_append_extractLsb'_eq_extractLsb' (by rfl)]
  exact BitVec.extractLsb'_eq_self

theorem ofBytes4_quadBytes (q : Quad) :
    ofBytes4 (q.extractLsb' 24 8) (q.extractLsb' 16 8) (q.extractLsb' 8 8) (q.extractLsb' 0 8) = q := by
  rw [ofBytes4, BitVec.extractLsb'_append_extractLsb'_eq_extractLsb' (by rfl),
    BitVec.extractLsb'_append_extractLsb'_eq_extractLsb' (by rfl), BitVec.extractLsb'_append_extractLsb'_eq_extractLsb' (by rfl)]
  exact BitVec.extractLsb'_eq_self

theorem nibbles_of_append (a b : Nibble) : (a ++ b : Byte).extractLsb' 4 4 = a ∧ (a ++ b : Byte).extractLsb' 0 4 = b := by
  revert a b
  decide +kernel

/-! ### Reading a telegram -/

theorem halfBytes_length (h : Half) : (halfBytes h).length = 2 := rfl

/-- R3, R4, R16: a whole telegram of an assigned kind is read by its payload, whatever follows its check. -/
theorem readTelegram_telegram (straps : Straps) {kind : Nibble} (source target : Nibble) (periodByte : Byte)
    {payload : List Byte} (after : List Byte) (hkind : kind.toNat < 14) (hlength : payload.length ≤ 24) :
    readTelegram straps (telegram kind source target periodByte payload ++ after) =
      (readPayload straps kind source target payload).getD .malformedTelegram := by
  obtain ⟨hkindBits, hsourceBits⟩ := nibbles_of_append kind source
  obtain ⟨htargetBits, -⟩ := nibbles_of_append target 0#4
  have hlen : (BitVec.ofNat 8 payload.length).toNat = payload.length := by
    rw [BitVec.toNat_ofNat]
    omega
  obtain ⟨c, hc⟩ : ∃ c, check ([kind ++ source, target ++ 0#4, BitVec.ofNat 8 payload.length, periodByte] ++ payload) = c :=
    ⟨_, rfl⟩
  have htelegram : telegram kind source target periodByte payload ++ after =
      (kind ++ source) :: (target ++ 0#4) :: BitVec.ofNat 8 payload.length ::
        (periodByte :: payload ++ (halfBytes c ++ after)) := by
    rw [telegram, hc]
    simp
  have htake : (periodByte :: payload ++ (halfBytes c ++ after)).take (1 + payload.length) = periodByte :: payload :=
    List.take_left' (by simp [Nat.add_comm])
  have hdrop : (periodByte :: payload ++ (halfBytes c ++ after)).drop (1 + payload.length) = halfBytes c ++ after :=
    List.drop_left' (by simp [Nat.add_comm])
  have hpayload : ((periodByte :: payload ++ (halfBytes c ++ after)).drop 1).take payload.length = payload :=
    List.take_left' rfl
  rw [htelegram, readTelegram]
  rw [hlen, htake, hdrop, hpayload, hkindBits, hsourceBits, htargetBits, if_neg (by omega)]
  refine if_pos ⟨?_, hkind⟩
  rw [List.take_left' (halfBytes_length c)]
  exact congrArg halfBytes hc.symm

/-! ### Reading a payload -/

theorem readReportedState_code (st : ReportedState) : readReportedState (reportedStateCode st) = some st := by
  cases st <;> rfl

theorem packed_fields (role : Role) (side : Side) (isolated frozen leader : Bool) :
    let b : Byte := roleCode role ++ BitVec.ofBool (side == .one) ++ BitVec.ofBool isolated ++ BitVec.ofBool frozen ++
      BitVec.ofBool leader ++ 0#2
    readRole b = some role ∧ (if b.getLsbD 5 then Side.one else .zero) = side ∧ b.getLsbD 4 = isolated ∧
      b.getLsbD 3 = frozen ∧ b.getLsbD 2 = leader := by
  revert isolated frozen leader
  cases role <;> cases side <;> decide

/-- The packed byte gives back what was packed (spec/01 section 1.2). -/
theorem packedByte_fields (r : Report) : readRole (packedByte r) = some r.role ∧
    (if (packedByte r).getLsbD 5 then Side.one else .zero) = r.side ∧ (packedByte r).getLsbD 4 = r.isolated ∧
      (packedByte r).getLsbD 3 = r.frozen ∧ (packedByte r).getLsbD 2 = r.leader :=
  packed_fields r.role r.side r.isolated r.frozen r.leader

/-- R5: the part that station state and role call for is read back. -/
theorem readRolePart_bytes {r : Report} (h : r.wellFormed = true) :
    readRolePart r.station r.role (rolePartBytes r.part) = some r.part := by
  obtain ⟨st, mode, role, side, isolated, frozen, leader, flags, sample, part⟩ := r
  cases part with
  | none => cases st <;> first | rfl | (cases role <;> exact absurd h nofun)
  | configFault c => cases st <;> first | rfl | (cases role <;> exact absurd h nofun)
  | wheel p =>
    have hread : readWheelPart (rolePartBytes (.wheel p)) = some (.wheel p) := by
      simp [rolePartBytes, halfBytes, readWheelPart, ofBytes2_halfBytes]
    cases st <;> cases role <;> first | exact hread | exact absurd h nofun
  | steer p =>
    have hread : readSteerPart (rolePartBytes (.steer p)) = some (.steer p) := by
      simp [rolePartBytes, halfBytes, readSteerPart, ofBytes2_halfBytes]
    cases st <;> cases role <;> first | exact hread | exact absurd h nofun
  | ret p =>
    have hread : readReturnPart (rolePartBytes (.ret p)) = some (.ret p) := by
      simp [rolePartBytes, halfBytes, readReturnPart, ofBytes2_halfBytes]
    cases st <;> cases role <;> first | exact hread | exact absurd h nofun

theorem readReport_bytes {r : Report} (h : r.wellFormed = true) : readReport (reportBytes r) = some r := by
  obtain ⟨hrole, hside, hisolated, hfrozen, hleader⟩ := packedByte_fields r
  have hbytes : reportBytes r = reportedStateCode r.station :: r.mode :: packedByte r :: r.flags.extractLsb' 8 8 ::
    r.flags.extractLsb' 0 8 :: r.sample.extractLsb' 8 8 :: r.sample.extractLsb' 0 8 :: rolePartBytes r.part := rfl
  rw [hbytes, readReport, readReportedState_code, hrole]
  dsimp only
  rw [readRolePart_bytes h, hside, hisolated, hfrozen, hleader, ofBytes2_halfBytes, ofBytes2_halfBytes]
  rfl

theorem readDemand_bytes (f : DemandFields) : readDemand (demandBytes f) = some f := by
  simp [demandBytes, halfBytes, readDemand, ofBytes2_halfBytes]

theorem reportBytes_length {r : Report} : (reportBytes r).length ≤ 24 := by
  have hpart : (rolePartBytes r.part).length ≤ 17 := by
    cases r.part <;> simp [rolePartBytes, halfBytes]
  simp only [reportBytes, List.length_append, halfBytes_length, List.length_cons, List.length_nil]
  omega

theorem onLine_some {k s t kind source target : Nibble} {p payload : List Byte}
    (h : some (k, s, t, p) = some (kind, source, target, payload)) :
    k = kind ∧ s = source ∧ t = target ∧ p = payload := by
  cases h
  exact ⟨rfl, rfl, rfl, rfl⟩

/-- The telegrams that a station takes from the line are of an assigned kind and at most 24 payload bytes, and each
payload is read back as its command (R5). -/
theorem readPayload_onLine {c : Instr} {kind source target : Nibble} {payload : List Byte} {straps : Straps}
    (hwell : c.wellFormed = true) (h : onLine c = some (kind, source, target, payload))
    (hstraps : ∀ a b st, c = .restart a b st → st = straps) :
    kind.toNat < 14 ∧ payload.length ≤ 24 ∧ readPayload straps kind source target payload = some c := by
  cases c with
  | powerOnReset | resetRelease | filterSample | analogConversion | periodTimerExpiry | attemptStart | attemptOutbid
  | attemptFailed | attemptSent | badTelegram | malformedTelegram | telegramHeard | clashEntry | computePoint =>
    exact absurd h nofun
  | mark src tgt n =>
    obtain ⟨rfl, rfl, rfl, rfl⟩ := onLine_some h
    exact ⟨by decide, Nat.le_of_ble_eq_true rfl, congrArg (fun n => some (Instr.mark src tgt n)) (ofBytes2_halfBytes n)⟩
  | countHalt src tgt i =>
    obtain ⟨rfl, rfl, rfl, rfl⟩ := onLine_some h
    exact ⟨by decide, Nat.le_of_ble_eq_true rfl, rfl⟩
  | countThaw src tgt =>
    obtain ⟨rfl, rfl, rfl, rfl⟩ := onLine_some h
    exact ⟨by decide, Nat.le_of_ble_eq_true rfl, rfl⟩
  | demand src tgt f =>
    obtain ⟨rfl, rfl, rfl, rfl⟩ := onLine_some h
    exact ⟨by decide, Nat.le_of_ble_eq_true rfl, congrArg (Option.map (Instr.demand src tgt)) (readDemand_bytes f)⟩
  | report src tgt r =>
    obtain ⟨rfl, rfl, rfl, rfl⟩ := onLine_some h
    have hr : r.wellFormed = true := (Bool.and_eq_true_iff.mp hwell).2
    exact ⟨by decide, reportBytes_length, congrArg (Option.map (Instr.report src tgt)) (readReport_bytes hr)⟩
  | flagClear src tgt codes =>
    obtain ⟨rfl, rfl, rfl, rfl⟩ := onLine_some h
    exact ⟨by decide, Nat.le_of_ble_eq_true rfl,
      congrArg (fun n => some (Instr.flagClear src tgt n)) (ofBytes2_halfBytes codes)⟩
  | countLoad src tgt i v =>
    obtain ⟨rfl, rfl, rfl, rfl⟩ := onLine_some h
    exact ⟨by decide, Nat.le_of_ble_eq_true rfl,
      congrArg (fun v => some (Instr.countLoad src tgt i v)) (ofBytes4_quadBytes v)⟩
  | countQuery src tgt i =>
    obtain ⟨rfl, rfl, rfl, rfl⟩ := onLine_some h
    exact ⟨by decide, Nat.le_of_ble_eq_true rfl, rfl⟩
  | setup src tgt p v =>
    obtain ⟨rfl, rfl, rfl, rfl⟩ := onLine_some h
    exact ⟨by decide, Nat.le_of_ble_eq_true rfl, congrArg (fun v => some (Instr.setup src tgt p v)) (ofBytes2_halfBytes v)⟩
  | setupClose src tgt =>
    obtain ⟨rfl, rfl, rfl, rfl⟩ := onLine_some h
    exact ⟨by decide, Nat.le_of_ble_eq_true rfl, rfl⟩
  | restart src tgt st =>
    obtain ⟨rfl, rfl, rfl, rfl⟩ := onLine_some h
    exact ⟨by decide, Nat.le_of_ble_eq_true rfl, by rw [hstraps src tgt st rfl]; rfl⟩

/-- Settles O45: the levels give back the bytes, the bytes pass check and header, and the payload is its command. -/
theorem telegramRoundTrip : Obligations.TelegramRoundTrip := by
  intro c kind source target payload periodByte straps after hwell hline hstraps
  obtain ⟨hkind, hlength, hpayload⟩ := readPayload_onLine hwell hline hstraps
  rw [readLine, readLevels_lineLevels_append, readTelegram_telegram straps source target periodByte _ hkind hlength,
    hpayload]
  rfl

/-! ### Two telegrams that start together -/

/-- The four levels of a nibble, most significant first (R1). -/
def nibbleLevels (n : Nibble) : List Bool := [n.getLsbD 3, n.getLsbD 2, n.getLsbD 1, n.getLsbD 0]

theorem byteLevels_append (a b : Nibble) : byteLevels (a ++ b) = false :: (nibbleLevels a ++ nibbleLevels b ++ [true]) := by
  revert a b
  decide +kernel

/-- `w` and `l` run together for `n` levels; then `w` is dominant and `l` recessive. -/
def ParsAt (n : Nat) (w l : List Bool) : Prop :=
  ∃ p w' l' : List Bool, p.length = n ∧ w = p ++ false :: w' ∧ l = p ++ true :: l'

theorem nibbleLevels_parts {a b : Nibble} (h : a < b) : ∃ n < 4, ParsAt n (nibbleLevels a) (nibbleLevels b) := by
  have hsplit : ∀ a b : Nibble, a < b → ∃ n : Fin 4,
      nibbleLevels a = (nibbleLevels a).take n ++ false :: (nibbleLevels a).drop (n + 1) ∧
        nibbleLevels b = (nibbleLevels a).take n ++ true :: (nibbleLevels b).drop (n + 1) := by
    decide +kernel
  obtain ⟨n, ha, hb⟩ := hsplit a b h
  have hn : n.val ≤ (nibbleLevels a).length := n.isLt.le
  exact ⟨n, n.isLt, _, _, _, List.length_take_of_le hn, ha, hb⟩

theorem ParsAt.append {n : Nat} {w l : List Bool} (h : ParsAt n w l) (x y : List Bool) : ParsAt n (w ++ x) (l ++ y) := by
  obtain ⟨p, w', l', hn, rfl, rfl⟩ := h
  exact ⟨p, w' ++ x, l' ++ y, hn, by simp, by simp⟩

theorem ParsAt.prepend {n : Nat} {w l : List Bool} (h : ParsAt n w l) (q : List Bool) :
    ParsAt (q.length + n) (q ++ w) (q ++ l) := by
  obtain ⟨p, w', l', rfl, rfl, rfl⟩ := h
  exact ⟨q ++ p, w', l', by simp, by simp, by simp⟩

/-- R7: two telegrams part in the data bits of byte 0, the lower kind, and within a kind the lower source, dominant. -/
theorem telegram_parts {k1 s1 k2 s2 : Nibble} (h : k1 < k2 ∨ (k1 = k2 ∧ s1 < s2)) (t1 t2 : Nibble) (b1 b2 : Byte)
    (p1 p2 : List Byte) : ∃ n, 1 ≤ n ∧ n ≤ 8 ∧
      ParsAt n (lineLevels (telegram k1 s1 t1 b1 p1)) (lineLevels (telegram k2 s2 t2 b2 p2)) := by
  have hlevels (k s t : Nibble) (b : Byte) (p : List Byte) : ∃ rest, lineLevels (telegram k s t b p) =
      [false] ++ (nibbleLevels k ++ (nibbleLevels s ++ rest)) := by
    refine ⟨true :: lineLevels ((telegram k s t b p).tail), ?_⟩
    have hcons : telegram k s t b p = (k ++ s) :: (telegram k s t b p).tail := rfl
    rw [hcons, lineLevels, List.flatMap_cons, byteLevels_append]
    simp [lineLevels]
  obtain ⟨r1, hw⟩ := hlevels k1 s1 t1 b1 p1
  obtain ⟨r2, hl⟩ := hlevels k2 s2 t2 b2 p2
  rw [hw, hl]
  rcases h with hk | ⟨rfl, hs⟩
  · obtain ⟨n, hn, hparts⟩ := nibbleLevels_parts hk
    exact ⟨1 + n, by omega, by omega, (hparts.append _ _).prepend [false]⟩
  · obtain ⟨n, hn, hparts⟩ := nibbleLevels_parts hs
    exact ⟨1 + (4 + n), by omega, by omega, (((hparts.append _ _).prepend (nibbleLevels k1)).prepend [false])⟩

/-- A sender that has given up leaves the line to the other (R7). -/
theorem drives_nil_wired {w line : List Bool} (h : line.length = w.length) :
    line = wiredLine (drives w line) (drives [] line) ↔ line = w := by
  induction w generalizing line with
  | nil =>
    obtain rfl := List.length_eq_zero_iff.mp h
    simp [wiredLine, drives]
  | cons a w ih =>
    obtain ⟨x, line, rfl⟩ := List.exists_cons_of_length_eq_add_one h
    have hlength : line.length = w.length := Nat.succ.inj h
    by_cases hx : x = a
    · subst hx
      simp only [drives, wiredLine, List.zipWith_cons_cons, if_true, Bool.and_true, List.cons.injEq, true_and]
      exact ih hlength
    · simp [drives, wiredLine, hx]

/-- R7: while both send alike the line is theirs; from the mismatch on it is the winner's. -/
theorem drives_wired {n : Nat} {w l line : List Bool} (h : ParsAt n w l) (hlength : line.length = w.length) :
    line = wiredLine (drives w line) (drives l line) ↔ line = w := by
  obtain ⟨p, w', l', -, rfl, rfl⟩ := h
  induction p generalizing line with
  | nil =>
    obtain ⟨x, line, rfl⟩ := List.exists_cons_of_length_eq_add_one hlength
    have hrest : line.length = w'.length := Nat.succ.inj hlength
    cases x with
    | false =>
      simp only [List.nil_append, drives, wiredLine, List.zipWith_cons_cons, if_true, Bool.and_true, List.cons.injEq,
        true_and, reduceCtorEq, if_false]
      exact drives_nil_wired hrest
    | true => simp [drives, wiredLine]
  | cons a p ih =>
    obtain ⟨x, line, rfl⟩ := List.exists_cons_of_length_eq_add_one hlength
    have hrest : line.length = (p ++ false :: w').length := Nat.succ.inj hlength
    by_cases hx : x = a
    · subst hx
      simp only [List.cons_append, drives, wiredLine, List.zipWith_cons_cons, if_true, Bool.and_self, List.cons.injEq,
        true_and]
      exact ih hrest
    · have hx' : ¬ a = x := fun h => hx h.symm
      simp [drives, wiredLine, hx, hx']

theorem readBack_self (n : Nat) (w : List Bool) : readBack n w w = .attemptSent := by
  induction w generalizing n with
  | nil => rfl
  | cons a w ih => simpa [readBack] using ih (n + 1)

/-- R7: a recessive level sent and a dominant one read in the data bits of byte 0 is OUTBID. -/
theorem readBack_of_parts {m n : Nat} {w l : List Bool} (h : ParsAt n w l) (hlow : 1 ≤ m + n) (hhigh : m + n ≤ 8) :
    readBack m l w = .attemptOutbid := by
  obtain ⟨p, w', l', rfl, rfl, rfl⟩ := h
  induction p generalizing m with
  | nil =>
    simp only [List.length_nil, Nat.add_zero] at hlow hhigh
    simp [readBack, hlow, hhigh]
  | cons a p ih =>
    simp only [List.length_cons] at hlow hhigh
    simpa [readBack] using ih (m := m + 1) (by omega) (by omega)

/-- Settles O46: two telegrams part in byte 0, and each level of the line follows from the one before it. -/
theorem lowerPrecedenceValueWins : Obligations.LowerPrecedenceValueWins := by
  intro k1 s1 t1 k2 s2 t2 b1 b2 p1 p2 horder winner loser line hlength
  obtain ⟨n, hlow, hhigh, hparts⟩ := telegram_parts horder t1 t2 b1 b2 p1 p2
  have hfix := drives_wired hparts hlength
  refine ⟨hfix, fun hline => ?_⟩
  rw [hfix.mp hline]
  exact ⟨readBack_of_parts hparts (by omega) (by omega), readBack_self 0 _⟩

end Sys2Proof.Machine

/-! ## The ranges of the roles

Each role's compute keeps its state in the ranges of its chapter (R69, R94, R112, R129), stage by stage: the layer that the
range invariant of every step (O43) stands on. -/

namespace Sys2Proof.Machine

/-! ### Parameters and arithmetic -/

/-- A parameter lies between the bounds of its row (R161). -/
theorem ParamsInRange.row {t : ParamTable} (h : ParamsInRange t) (n : Nat) {lo hi : Int}
    (hrow : (paramRow n).map (fun r => (r.lo, r.hi)) = some (lo, hi)) : within lo hi (par t n) := by
  have hn := h n
  cases hr : paramRow n with
  | none => rw [hr] at hrow; exact absurd hrow nofun
  | some r =>
    rw [hr] at hn hrow
    obtain ⟨rfl, rfl⟩ := Prod.mk.inj (Option.some.inj hrow)
    exact hn

theorem within_zero {lo hi : Int} (hlo : lo ≤ 0) (hhi : 0 ≤ hi) : within lo hi 0 := ⟨hlo, hhi⟩

/-- What a division toward zero leaves is below the divisor on either side. -/
theorem divZero_rest (a : Int) {b : Int} (hb : 0 < b) : within (-(b - 1)) (b - 1) (a - b * divZero a b) := by
  have hdiv := Int.mul_tdiv_add_tmod a b
  have hhigh := Int.tmod_lt_of_pos a hb
  have hlow := Int.lt_tmod_of_pos a hb
  unfold divZero
  constructor <;> omega

/-- R81, R135: whatever it is given, the integral step leaves u and its residue in range. -/
theorem integralStep_within (gain error slew u residue : Int) :
    within 0 1000 (integralStep gain error slew u residue).1 ∧
      within (-255) 255 (integralStep gain error slew u residue).2 := by
  have hzero : within (-255) 255 0 := within_zero (by decide) (by decide)
  rcases integralStep_cases gain error slew u residue with ⟨-, he⟩ | ⟨-, he⟩ | ⟨hu, hstep, he⟩ | ⟨hu, -, he⟩ <;> rw [he]
  · exact ⟨⟨by decide, by decide⟩, hzero⟩
  · exact ⟨⟨by decide, by decide⟩, hzero⟩
  · refine ⟨hu, ?_⟩
    rw [hstep]
    exact divZero_rest _ (by decide)
  · exact ⟨hu, hzero⟩

/-! ### The wheel loop -/

theorem Wheel.reset_inRange {t : ParamTable} (ht : ParamsInRange t) : Wheel.reset.InRange t := by
  obtain ⟨h24, -⟩ := ht.row 24 (lo := 1) (hi := 100) rfl
  obtain ⟨h25, -⟩ := ht.row 25 (lo := 1) (hi := 200) rfl
  constructor <;> simp [Wheel.reset, within]

section Wheel

variable {i : WheelInput} {w : Wheel}

/-- The reads of the wheel role that R69's ranges hang on. -/
structure WheelInput.InRange (i : WheelInput) : Prop where
  params : ParamsInRange i.params
  baseSpeed : within 0 999 i.baseSpeed
  pairSpeed : within 0 999 i.pairSpeed

theorem effectiveBase_within (hi : i.InRange) : within 0 999 (effectiveBase i) := by
  obtain ⟨hlo, hhi⟩ := hi.baseSpeed
  obtain ⟨hlo34, hhi34⟩ : within 0 100 (par i.params 34) := hi.params.row 34 rfl
  have hcut : within 0 999 (cutBase i) := by
    have hzero : within 0 999 0 := within_zero (by decide) (by decide)
    have hproduct : 0 ≤ i.baseSpeed * par i.params 34 := mul_nonneg hlo hlo34
    have hbound : i.baseSpeed * par i.params 34 ≤ 999 * 100 := mul_le_mul hhi hhi34 hlo34 (by decide)
    unfold cutBase
    split
    · exact hzero
    · split_ifs
      · exact hi.baseSpeed
      · rw [divZero, Int.tdiv_eq_ediv_of_nonneg hproduct]
        constructor <;> omega
      · exact hzero
  obtain ⟨hcutLo, hcutHi⟩ := hcut
  unfold effectiveBase within
  cases i.mode <;> dsimp only <;> omega

theorem settleDirection_within (hi : i.InRange) (w : Wheel) : within 0 999 (settleDirection i w).2 := by
  have hbase := effectiveBase_within hi
  unfold settleDirection
  dsimp only
  split_ifs
  · exact hbase
  · exact hbase
  · exact within_zero (by decide) (by decide)

/-- Stage 1 keeps the ranges (R73 to R75). -/
theorem wheelTarget_inRange (hi : i.InRange) (h : w.InRange i.params) : (wheelTarget i w).InRange i.params := by
  obtain ⟨hslew, -⟩ : within 1 100 (par i.params 27) := hi.params.row 27 rfl
  have hramped : within 0 999 (wheelTarget i w).ramped :=
    moveToward_within (by omega) h.ramped (settleDirection_within hi w)
  have htarget : within 0 999 (wheelTarget i w).target := by
    unfold wheelTarget
    dsimp only
    split
    · exact clamp_within (by decide) _
    · exact hramped
  have herror : within (-999) 999 (wheelTarget i w).error := by
    obtain ⟨htargetLo, htargetHi⟩ := htarget
    obtain ⟨hpairLo, hpairHi⟩ := hi.pairSpeed
    change within (-999) 999 ((wheelTarget i w).target - i.pairSpeed)
    constructor <;> omega
  exact { h with ramped := hramped, target := htarget, error := herror }

theorem expireJams_inRange (i : WheelInput) (h : w.InRange i.params) : (expireJams i w).InRange i.params :=
  have hshorter : (expireJams i w).history.length ≤ w.history.length := List.length_filter_le _ _
  { h with history := hshorter.trans h.history, jams := fun hloop => hshorter.trans (h.jams hloop) }

theorem wheelStart_inRange (hi : i.InRange) (h : w.InRange i.params) (hfaulted : w.loop ≠ .faulted) :
    (wheelStart w).InRange i.params := by
  obtain ⟨h24, -⟩ : within 1 100 (par i.params 24) := hi.params.row 24 rfl
  exact
    { h with
      u := within_zero (by decide) (by decide), residue := within_zero (by decide) (by decide), jams := fun _ => h.jams hfaulted
      jam := Nat.zero_le _, acquire := Nat.zero_le _, acquiring := fun _ => by simp [wheelStart, parN]; omega
      tracking := nofun, locked := nofun }

/-- R84 to R86: the third jam leads to FAULTED. -/
theorem wheelJammed_inRange (h : w.InRange i.params) (hdriving : w.loop.driving = true) :
    (wheelJammed i w).1.InRange i.params := by
  have hfew : w.history.length ≤ 2 := h.jams fun hloop => by rw [hloop] at hdriving; exact absurd hdriving nofun
  have hlength : (w.history ++ [i.now]).length = w.history.length + 1 := by simp
  have hzero : within 0 1000 0 := within_zero (by decide) (by decide)
  have hrest : within (-255) 255 0 := within_zero (by decide) (by decide)
  unfold wheelJammed
  dsimp only
  split
  · exact
      { h with
        u := hzero, residue := hrest, jam := Nat.zero_le _, history := by rw [hlength]; omega
        jams := fun hloop => absurd rfl hloop, acquiring := nofun, tracking := nofun, locked := nofun }
  · next hthird =>
    exact
      { h with
        u := hzero, residue := hrest, jam := Nat.zero_le _, history := by rw [hlength]; omega
        jams := fun _ => by dsimp only; omega, stall := by dsimp only; omega
        acquiring := nofun, tracking := nofun, locked := nofun }

/-- R77 to R80: a count that reaches its limit ends its state. -/
theorem wheelWindows_inRange (hi : i.InRange) (h : w.InRange i.params) : (wheelWindows i w).1.InRange i.params := by
  obtain ⟨h24, -⟩ : within 1 100 (par i.params 24) := hi.params.row 24 rfl
  obtain ⟨h25, -⟩ : within 1 200 (par i.params 25) := hi.params.row 25 rfl
  have hacquire : 0 < parN i.params 24 := by unfold parN; omega
  have hlock : 0 < parN i.params 25 := by unfold parN; omega
  cases hloop : w.loop with
  | acquire =>
    have hbelow := h.acquiring hloop
    have hstays : w.loop ≠ .faulted := by rw [hloop]; exact nofun
    have hcount : w.acquires i ≤ parN i.params 24 := by unfold Wheel.acquires; split <;> omega
    rw [wheelWindows_of_acquire hloop]
    split
    · exact
        { h with
          jams := fun _ => h.jams hstays, acquire := hcount, lock := Nat.zero_le _
          acquiring := nofun, tracking := fun _ => hlock, locked := nofun }
    · next hlt => exact { h with acquire := hcount, acquiring := fun _ => not_le.mp hlt }
  | track =>
    have hbelow := h.tracking hloop
    have hstays : w.loop ≠ .faulted := by rw [hloop]; exact nofun
    have hcount : w.locks i ≤ parN i.params 25 := by unfold Wheel.locks; split <;> omega
    rw [wheelWindows_of_track hloop]
    split_ifs with hfar hfull
    · exact
        { h with
          jams := fun _ => h.jams hstays, acquire := Nat.zero_le _, acquiring := fun _ => hacquire
          tracking := nofun, locked := nofun }
    · exact
        { h with
          jams := fun _ => h.jams hstays, lock := hcount, exit := Nat.zero_le _
          acquiring := nofun, tracking := nofun, locked := fun _ => Nat.zero_lt_two }
    · exact { h with lock := hcount, tracking := fun _ => not_le.mp hfull }
  | locked =>
    have hbelow := h.locked hloop
    have hstays : w.loop ≠ .faulted := by rw [hloop]; exact nofun
    have hcount : w.exits i ≤ 2 := by unfold Wheel.exits; split <;> omega
    rw [wheelWindows_of_locked hloop]
    split_ifs with hfar hfull
    · exact
        { h with
          jams := fun _ => h.jams hstays, acquire := Nat.zero_le _, acquiring := fun _ => hacquire
          tracking := nofun, locked := nofun }
    · exact
        { h with
          jams := fun _ => h.jams hstays, exit := hcount, lock := Nat.zero_le _
          acquiring := nofun, tracking := fun _ => hlock, locked := nofun }
    · exact { h with exit := hcount, locked := fun _ => not_le.mp hfull }
  | off | stalled | backoff | faulted =>
    simp only [wheelWindows, hloop]
    exact h

/-- R76, R84: jam detection, and where no jam is detected the windows. -/
theorem wheelDriving_inRange (hi : i.InRange) (h : w.InRange i.params) (hdriving : w.loop.driving = true) :
    (wheelDriving i w).1.InRange i.params := by
  rw [wheelDriving_eq]
  by_cases hjam : Jams i w
  · rw [if_pos hjam]
    exact wheelJammed_inRange h hdriving
  · rw [if_neg hjam]
    have hcount : jamNext i w ≤ parN i.params 30 := by
      unfold jamNext
      split_ifs with hvalid hhit
      · have hbelow : ¬ parN i.params 30 ≤ jamNext i w := fun hle => hjam ⟨hvalid, hhit, hle⟩
        rw [jamNext, if_pos hvalid, if_pos hhit] at hbelow
        omega
      · exact Nat.zero_le _
      · exact h.jam
    have hcounted : ({ w with jamCount := jamNext i w } : Wheel).InRange i.params := { h with jam := hcount }
    split
    · exact wheelWindows_inRange hi hcounted
    · exact hcounted

/-- Stage 2 keeps the ranges (R76 to R88). -/
theorem wheelTransition_inRange (hi : i.InRange) (h : w.InRange i.params) : (wheelTransition i w).1.InRange i.params := by
  obtain ⟨h32, -⟩ : within 1 1000 (par i.params 32) := hi.params.row 32 rfl
  have hexpired := expireJams_inRange i h
  cases hloop : w.loop with
  | stalled =>
    have hloop' : (expireJams i w).loop = .stalled := hloop
    have hfew := hexpired.jams (by rw [hloop']; exact nofun)
    have hcount := hexpired.stall
    simp only [wheelTransition, hloop']
    split
    · exact
        { hexpired with
          jams := fun _ => hfew, backoff := by simp only [parN]; omega, acquiring := nofun, tracking := nofun, locked := nofun }
    · next hbelow =>
      exact
        { hexpired with
          jams := fun _ => hfew, stall := Nat.lt_of_le_of_ne hcount hbelow
          acquiring := nofun, tracking := nofun, locked := nofun }
  | backoff =>
    have hloop' : (expireJams i w).loop = .backoff := hloop
    have hstays : (expireJams i w).loop ≠ .faulted := by rw [hloop']; exact nofun
    have hcount := hexpired.backoff
    simp only [wheelTransition, hloop']
    split_ifs with hfull hramped
    · exact wheelStart_inRange hi hexpired hstays
    · exact
        { hexpired with
          jams := fun _ => hexpired.jams hstays, acquiring := nofun, tracking := nofun, locked := nofun }
    · exact
        { hexpired with
          jams := fun _ => hexpired.jams hstays, backoff := Nat.lt_of_le_of_ne hcount hfull
          acquiring := nofun, tracking := nofun, locked := nofun }
  | faulted =>
    have hloop' : (expireJams i w).loop = .faulted := hloop
    simp only [wheelTransition, hloop']
    split
    · exact
        { hexpired with
          history := Nat.zero_le _, jams := fun _ => Nat.zero_le _, acquiring := nofun, tracking := nofun, locked := nofun }
    · exact hexpired
  | off =>
    have hloop' : (expireJams i w).loop = .off := hloop
    simp only [wheelTransition, hloop']
    split
    · exact wheelStart_inRange hi hexpired (by rw [hloop']; exact nofun)
    · exact hexpired
  | acquire | track | locked =>
    have hdriving : w.loop.driving = true := by rw [hloop]; rfl
    rw [wheelTransition_of_driving hdriving]
    exact wheelDriving_inRange hi hexpired hdriving

theorem wheelStep_inRange (h : w.InRange i.params) : (wheelStep i w).InRange i.params :=
  { h with u := (integralStep_within _ _ _ _ _).1, residue := (integralStep_within _ _ _ _ _).2 }

/-- R82: the wind-down. -/
theorem wheelWindDown_inRange (hi : i.InRange) (h : w.InRange i.params) (hdriving : w.loop.driving = true) :
    (wheelWindDown i w).1.InRange i.params := by
  obtain ⟨h24, -⟩ : within 1 100 (par i.params 24) := hi.params.row 24 rfl
  obtain ⟨h25, -⟩ : within 1 200 (par i.params 25) := hi.params.row 25 rfl
  obtain ⟨h26, -⟩ : within 1 1000 (par i.params 26) := hi.params.row 26 rfl
  have hacquire : 0 < parN i.params 24 := by unfold parN; omega
  have hlock : 0 < parN i.params 25 := by unfold parN; omega
  obtain ⟨huLo, huHi⟩ := h.u
  have hdown : within 0 1000 (max 0 (w.u - par i.params 26)) := by constructor <;> omega
  have hfew := h.jams fun hloop => by rw [hloop] at hdriving; exact absurd hdriving nofun
  have hrest : within (-255) 255 0 := within_zero (by decide) (by decide)
  unfold wheelWindDown
  dsimp only
  split
  · exact
      { h with
        u := hdown, residue := hrest, jams := fun _ => hfew, jam := Nat.zero_le _, acquire := Nat.zero_le _
        lock := Nat.zero_le _, exit := Nat.zero_le _, acquiring := nofun, tracking := nofun, locked := nofun }
  · exact
      { h with
        u := hdown, residue := hrest, acquire := Nat.zero_le _, lock := Nat.zero_le _, exit := Nat.zero_le _
        acquiring := fun _ => hacquire, tracking := fun _ => hlock, locked := fun _ => Nat.zero_lt_two }

theorem driveOutput_within (hi : i.InRange) (h : w.InRange i.params) : within (-1000) 1000 (driveOutput i w) := by
  obtain ⟨hbackLo, hbackHi⟩ : within 0 1000 (par i.params 31) := hi.params.row 31 rfl
  obtain ⟨huLo, huHi⟩ := h.u
  unfold driveOutput within
  cases w.loop with
  | off | stalled | faulted => exact within_zero (by decide) (by decide)
  | acquire | track | locked | backoff =>
    dsimp only
    split <;> omega

/-- Stage 3 keeps the ranges (R81 to R83). -/
theorem wheelOutput_inRange (hi : i.InRange) (h : w.InRange i.params) : (wheelOutput i w).1.InRange i.params := by
  have hdriven {v : Wheel} (hv : v.InRange i.params) : ({ v with drive := driveOutput i v } : Wheel).InRange i.params :=
    { hv with drive := driveOutput_within hi hv }
  unfold wheelOutput
  split_ifs with hdriving
  · exact hdriven (wheelStep_inRange h)
  · exact hdriven (wheelWindDown_inRange hi h hdriving)
  · exact hdriven h

/-- A compute keeps the ranges of R69. -/
theorem wheelCompute_inRange (hi : i.InRange) (h : w.InRange i.params) : (wheelCompute i w).1.InRange i.params :=
  wheelOutput_inRange hi (wheelTransition_inRange hi (wheelTarget_inRange hi h))

/-- A STOP at its arrival keeps the ranges of R69 (R90). -/
theorem wheelStop_inRange {t : ParamTable} (h : w.InRange t) : (wheelStop w).1.InRange t :=
  { h with
    u := within_zero (by decide) (by decide), residue := within_zero (by decide) (by decide)
    ramped := within_zero (by decide) (by decide), drive := within_zero (by decide) (by decide)
    history := by unfold wheelStop; dsimp only; split <;> [exact Nat.zero_le _; exact h.history]
    jams := fun _ => by
      unfold wheelStop
      dsimp only
      split
      · exact Nat.zero_le _
      · next hloop => exact h.jams hloop
    acquire := Nat.zero_le _, lock := Nat.zero_le _, exit := Nat.zero_le _, jam := Nat.zero_le _
    stall := Nat.zero_le _, backoff := Nat.zero_le _, acquiring := nofun, tracking := nofun, locked := nofun }

end Wheel

/-! ### Arbitration -/

theorem Arbitration.reset_inRange {t : ParamTable} (ht : ParamsInRange t) : Arbitration.reset.InRange t := by
  obtain ⟨h38, -⟩ := ht.row 38 (lo := 1) (hi := 30000) rfl
  obtain ⟨h39, -⟩ := ht.row 39 (lo := 1) (hi := 30000) rfl
  obtain ⟨h42, -⟩ := ht.row 42 (lo := 0) (hi := 200) rfl
  have hzero : within (-(par t 42)) (par t 42) 0 := within_zero (by omega) h42
  have hstarve : 0 < parN t 38 := by unfold parN; omega
  have hrelief : 0 < parN t 39 := by unfold parN; omega
  exact ⟨hzero, hzero, hzero, by decide, nofun, hstarve, fun _ => rfl, hrelief⟩

section Arbitration

variable {i : ArbInput} {a : Arbitration}

/-- The reads of arbitration that R94's ranges hang on. -/
structure ArbInput.InRange (i : ArbInput) : Prop where
  params : ParamsInRange i.params
  wheels : ∀ p ∈ i.wheels, 1 ≤ p.1 ∧ p.1 ≤ 14

theorem partnerRow_mem {p : Nat × PeerContent} (h : partnerRow i = some p) : p ∈ i.wheels := by
  unfold partnerRow at h
  split at h
  · exact absurd h nofun
  · exact List.mem_of_find?_eq_some h

/-- R95: a follower and no other has a leader, whose row it read. -/
theorem selectStanding_leader (hi : i.InRange) :
    ((selectStanding i).2.isSome = true ↔ (selectStanding i).1 = .follower) ∧
      ∀ n, (selectStanding i).2 = some n → 1 ≤ n ∧ n ≤ 14 := by
  cases hpartner : partnerRow i with
  | none =>
    rw [selectStanding_of_none hpartner]
    exact ⟨by decide, nofun⟩
  | some p =>
    rw [selectStanding_of_partner hpartner]
    split
    · exact ⟨by decide, nofun⟩
    · exact ⟨by simp, fun n hn => Option.some.inj hn ▸ hi.wheels p (partnerRow_mem hpartner)⟩

theorem stands_inRange (hi : i.InRange) (h : a.InRange i.params) : (a.stands i).InRange i.params := by
  obtain ⟨hleader, hnumbers⟩ := selectStanding_leader hi
  rcases stands_cases i a with ⟨hcarries, he⟩ | ⟨-, he⟩ <;> rw [he]
  · refine { h with leader := hleader, numbers := hnumbers, starving := fun hidle => h.starving ?_ }
    rcases hidle with hmode | hfollower
    · exact .inl hmode
    · by_cases hwas : a.standing = .follower
      · exact .inr hwas
      · rw [Carries, if_neg hwas] at hcarries
        exact absurd hfollower hcarries
  · exact
      { h with
        leader := hleader, numbers := hnumbers, starve := Nat.zero_lt_of_lt h.starve, starving := fun _ => rfl
        relief := Nat.zero_lt_of_lt h.relief }

/-- R100 to R102: the machine of a leader or lone station. -/
theorem arbMachine_inRange (h : a.InRange i.params) (hleads : a.standing ≠ .follower) :
    (arbMachine i a).InRange i.params := by
  have hstarve : 0 < parN i.params 38 := Nat.zero_lt_of_lt h.starve
  have hrelief : 0 < parN i.params 39 := Nat.zero_lt_of_lt h.relief
  cases hmode : a.mode with
  | balance =>
    rw [arbMachine_of_balance hmode]
    split
    · exact { h with starve := hstarve, starving := fun _ => rfl }
    · exact h
  | steer =>
    rw [arbMachine_of_steer hmode]
    split_ifs with hnear hfull
    · exact { h with starve := hstarve, starving := fun _ => rfl }
    · exact { h with starve := hstarve, starving := fun _ => rfl, relief := hrelief }
    · have hbelow := h.starve
      exact
        { h with
          starve := by dsimp only; omega
          starving := fun hidle => (hidle.elim (absurd hmode) (absurd · hleads)) }
  | relief =>
    have hzero : a.starve = 0 := h.starving (.inl (by rw [hmode]; exact nofun))
    rw [arbMachine_of_relief hmode]
    split_ifs with hover hfar
    · exact { h with starve := hstarve, starving := fun _ => rfl, relief := hrelief }
    · exact { h with starving := fun _ => hzero, relief := hrelief }
    · exact { h with relief := not_le.mp hover }

/-- R98 to R104: forcing, machine and target. -/
theorem arbDecide_inRange (hi : i.InRange) (h : a.InRange i.params) (hleads : a.standing ≠ .follower) :
    (arbDecide i a).InRange i.params := by
  obtain ⟨hbound, -⟩ : within 0 200 (par i.params 42) := hi.params.row 42 rfl
  have htarget := arbDecide_target_within (a := a) hbound
  have hstarve : 0 < parN i.params 38 := Nat.zero_lt_of_lt h.starve
  have hrelief : 0 < parN i.params 39 := Nat.zero_lt_of_lt h.relief
  by_cases hforced : a.standing = .lone ∨ i.mode ≠ .cut
  · rw [arbDecide_of_forced hforced] at htarget ⊢
    exact { h with target := htarget, starve := hstarve, starving := fun _ => rfl, relief := hrelief }
  · obtain ⟨hlone, hcut⟩ := not_or.mp hforced
    by_cases hsteers : i.steers = []
    · rw [arbDecide_of_no_steers hlone (not_not.mp hcut) hsteers] at htarget ⊢
      exact { h with target := htarget, starve := hstarve, starving := fun _ => rfl, relief := hrelief }
    · rw [arbDecide_of_machine hlone (not_not.mp hcut) hsteers] at htarget ⊢
      exact { arbMachine_inRange h hleads with target := htarget }

/-- A compute keeps the ranges of R94. -/
theorem arbCompute_inRange (hi : i.InRange) (h : a.InRange i.params) : (arbCompute i a).1.InRange i.params := by
  obtain ⟨hslew, -⟩ : within 1 200 (par i.params 43) := hi.params.row 43 rfl
  have hstands := stands_inRange hi h
  rw [arbCompute_eq]
  split
  · exact hstands
  · next hleads =>
    have hdecided := arbDecide_inRange hi hstands hleads
    exact { hdecided with next := moveToward_within (by omega) hdecided.inEffect hdecided.target }

/-- A leader's REPORT keeps the ranges of R94 (R107). -/
theorem arbAdopt_inRange {t : ParamTable} (ht : ParamsInRange t) (h : a.InRange t) (source : Nat) (r : Report) :
    (arbAdopt t source r a).InRange t := by
  obtain ⟨hbound, -⟩ := ht.row 42 (lo := 0) (hi := 200) rfl
  unfold arbAdopt
  split
  · split
    · next hfollows =>
      exact
        { h with
          inEffect := clamp_within (by omega) _, starving := fun _ => h.starving (.inr hfollows.1) }
    · exact h
  · exact h

end Arbitration

/-! ### The steering role -/

/-- RESTART keeps offsets and residues and resets the rest of the role (R167). -/
def Steer.restarted (w : Steer) : Steer :=
  { Steer.reset with offX := w.offX, offY := w.offY, resX := w.resX, resY := w.resY }

theorem Steer.restarted_inRange {t t' : ParamTable} {w : Steer} (h : w.InRange t) : w.restarted.InRange t' :=
  { usedX := within_zero (by decide) (by decide), usedY := within_zero (by decide) (by decide)
    offX := h.offX, offY := h.offY, resX := h.resX, resY := h.resY, depth := nofun
    flapL := within_zero (by decide) (by decide), flapR := within_zero (by decide) (by decide)
    stuckL := Nat.zero_le _, stuckR := Nat.zero_le _ }

theorem Steer.reset_inRange (t : ParamTable) : Steer.reset.InRange t := by
  constructor <;> simp [Steer.reset, within]

section Steer

variable {i : SteerInput} {w : Steer}

/-- The reads of the steering role that R112's ranges hang on. -/
structure SteerInput.InRange (i : SteerInput) : Prop where
  tiltX : within (-20000) 20000 i.tiltX
  tiltY : within (-20000) 20000 i.tiltY
  appliedL : within 0 1000 i.appliedL
  appliedR : within 0 1000 i.appliedR
  depth : within 0 30000 i.depth

theorem steerReset_inRange {t : ParamTable} (h : w.InRange t) : (steerReset i w).InRange t := by
  have hkept {lo hi v : Int} (hv : within lo hi v) (hlo : lo ≤ 0) (hhi : 0 ≤ hi) :
      within lo hi (if w.resetPending = true then 0 else v) := by
    split
    · exact within_zero hlo hhi
    · exact hv
  rw [steerReset_eq]
  refine
    { h with
      offX := hkept h.offX (by decide) (by decide), offY := hkept h.offY (by decide) (by decide)
      resX := hkept h.resX (by decide) (by decide), resY := hkept h.resY (by decide) (by decide), depth := ?_ }
  dsimp only
  split
  · exact nofun
  · exact h.depth

theorem tiltInRange_within (own reported formed : Int) : within (-20000) 20000 (tiltInRange own reported formed) := by
  have hclamp := clamp_within (lo := -20000) (hi := 20000) (by decide) (Config.unstatedTilt own reported)
  unfold tiltInRange
  split
  · next hmag =>
    unfold mag at hmag
    constructor <;> split at hmag <;> omega
  · exact hclamp

/-- R115, R117: the used tilt keeps its range in every fusion state. -/
theorem fuse_within (hi : i.InRange) (hx : within (-20000) 20000 w.usedX) (hy : within (-20000) 20000 w.usedY) :
    within (-20000) 20000 (fuse i w).2.1 ∧ within (-20000) 20000 (fuse i w).2.2 := by
  unfold fuse
  split
  · dsimp only
    split_ifs
    · exact ⟨tiltInRange_within _ _ _, tiltInRange_within _ _ _⟩
    · exact ⟨hi.tiltX, hi.tiltY⟩
    · exact ⟨tiltInRange_within _ _ _, tiltInRange_within _ _ _⟩
  · split
    · exact ⟨hi.tiltX, hi.tiltY⟩
    · exact ⟨hx, hy⟩

theorem steerFuse_inRange {t : ParamTable} (hi : i.InRange) (h : w.InRange t) : (steerFuse i w).1.InRange t :=
  have hused := fuse_within hi h.usedX h.usedY
  { h with usedX := hused.1, usedY := hused.2 }

theorem averageOffset_within (own reported : Int) : within (-32000) 32000 (averageOffset own reported) := by
  have hclamp := clamp_within (lo := -32000) (hi := 32000) (by decide) (Config.unstatedOffset own reported)
  unfold averageOffset
  dsimp only
  split
  · next hmag =>
    unfold mag at hmag
    constructor <;> split at hmag <;> omega
  · exact hclamp

theorem steerAverage_inRange {t : ParamTable} (h : w.InRange t) : (steerAverage i w).InRange t := by
  have haveraged (x y : Int) : ({ w with
      resetPeriod := none, offX := averageOffset w.offX x, offY := averageOffset w.offY y } : Steer).InRange t :=
    { h with offX := averageOffset_within _ _, offY := averageOffset_within _ _ }
  unfold steerAverage
  split
  · split
    · dsimp only
      split
      · exact haveraged _ _
      · split
        · exact haveraged _ _
        · exact h
    · exact h
  · exact h

/-- R121: offset and residue after the integration of one axis. -/
theorem integrateAxis_within (tilt step offset residue : Int) :
    within (-32000) 32000 (integrateAxis tilt step offset residue).1 ∧
      within (-999) 999 (integrateAxis tilt step offset residue).2 := by
  have hrest := divZero_rest (tilt * step + residue) (b := 1000) (by decide)
  have hzero : within (-999) 999 0 := within_zero (by decide) (by decide)
  unfold integrateAxis
  dsimp only
  split_ifs with hlow hhigh
  · exact ⟨⟨by decide, by decide⟩, hzero⟩
  · exact ⟨⟨by decide, by decide⟩, hzero⟩
  · exact ⟨⟨not_lt.mp hlow, not_lt.mp hhigh⟩, hrest⟩

theorem steerDepth_inRange {t : ParamTable} (hi : i.InRange) (h : w.InRange t) : (steerDepth i w).1.InRange t := by
  have hmoved : ({ w with depthRef := some i.depth } : Steer).InRange t :=
    { h with depth := fun d hd => Option.some.inj hd ▸ hi.depth }
  unfold steerDepth
  dsimp only
  split
  · exact hmoved
  · split_ifs
    · exact hmoved
    · exact hmoved
    · exact hmoved
    · exact
        { hmoved with
          offX := (integrateAxis_within _ _ _ _).1, offY := (integrateAxis_within _ _ _ _).1
          resX := (integrateAxis_within _ _ _ _).2, resY := (integrateAxis_within _ _ _ _).2 }

theorem stuckTest_within (i : SteerInput) (valid : Bool) (applied pos : Int) {count : Nat} (stuck : Bool)
    (h : count ≤ parN i.params 52) : (stuckTest i valid applied pos count stuck).1 ≤ parN i.params 52 := by
  unfold stuckTest
  split
  · exact h
  · split
    · exact satSucc_le _ _
    · exact Nat.zero_le _

theorem cutDemands_within (i : SteerInput) (w : Steer) :
    within 0 1000 (cutDemands i w).1 ∧ within 0 1000 (cutDemands i w).2 := by
  unfold cutDemands
  cases i.side <;> exact ⟨clamp_within (by decide) _, clamp_within (by decide) _⟩

/-- R123, R124: the flap demands keep their range in every mode. -/
theorem modeDemands_within (hi : i.InRange) (w : Steer) :
    within 0 1000 (modeDemands i w).1 ∧ within 0 1000 (modeDemands i w).2 := by
  have hzero : within 0 1000 0 := within_zero (by decide) (by decide)
  unfold modeDemands
  split
  · cases i.mode with
    | cut => exact cutDemands_within i w
    | hold | stop => exact ⟨hi.appliedL, hi.appliedR⟩
    | lift => exact ⟨hzero, hzero⟩
  · exact ⟨hzero, hzero⟩

/-- A compute keeps the ranges of R112. -/
theorem steerCompute_inRange (hi : i.InRange) (h : w.InRange i.params) : (steerCompute i w).1.InRange i.params := by
  have hfused : (fusedSteer i w).InRange i.params := steerFuse_inRange hi (steerReset_inRange h)
  have hmoved : (movedSteer i w).InRange i.params := by
    unfold movedSteer steerOffsets
    split
    · exact steerDepth_inRange hi (steerAverage_inRange hfused)
    · exact hfused
  obtain ⟨m, hm⟩ : ∃ m, movedSteer i w = m := ⟨_, rfl⟩
  rw [steerCompute_state, hm]
  rw [hm] at hmoved
  have htested : (steerStuck i m).1.InRange i.params :=
    { hmoved with stuckL := stuckTest_within _ _ _ _ _ hmoved.stuckL, stuckR := stuckTest_within _ _ _ _ _ hmoved.stuckR }
  have hdemands := modeDemands_within hi (steerStuck i m).1
  refine { htested with flapL := ?_, flapR := ?_ }
  · unfold steerDemands
    dsimp only
    split
    · exact hi.appliedL
    · exact hdemands.1
  · unfold steerDemands
    dsimp only
    split
    · exact hi.appliedR
    · exact hdemands.2

end Steer

/-! ### The return role -/

theorem Return.reset_inRange {t : ParamTable} (ht : ParamsInRange t) : Return.reset.InRange t := by
  obtain ⟨h56, -⟩ := ht.row 56 (lo := 0) (hi := 9999) rfl
  constructor <;> simp [Return.reset, within, h56]

section Return

variable {i : ReturnInput} {w : Return}

theorem runningTarget_range (hp : ParamsInRange i.params) {trim : Int} (htrim : 0 ≤ trim) :
    within 0 9999 (runningTarget i trim) := by
  obtain ⟨h55Lo, h55Hi⟩ : within 0 9999 (par i.params 55) := hp.row 55 rfl
  obtain ⟨h56Lo, h56Hi⟩ : within 0 9999 (par i.params 56) := hp.row 56 rfl
  unfold runningTarget uncappedDemand within
  cases i.mode <;> dsimp only <;> omega

theorem movedTrim_within (hp : ParamsInRange i.params) (h : w.InRange i.params) :
    within 0 (par i.params 56) (movedTrim i w) := by
  obtain ⟨h56, -⟩ : within 0 9999 (par i.params 56) := hp.row 56 rfl
  obtain ⟨htrimLo, htrimHi⟩ := h.trim
  unfold movedTrim
  constructor <;> split_ifs <;> omega

/-- The density trim moves in its range, and not in IDLE (R133). -/
theorem trimmed_inRange (hp : ParamsInRange i.params) (h : w.InRange i.params) :
    ({ w with trim := movedTrim i w } : Return).InRange i.params := by
  refine { h with trim := movedTrim_within hp h, idle := fun hidle => ?_ }
  have hidle' : w.state = .idle := hidle
  have hstands : movedTrim i w = w.trim := by simp [movedTrim, hidle']
  obtain ⟨hu, hresidue, htrim, hcavitating⟩ := h.idle hidle
  exact ⟨hu, hresidue, hstands.trans htrim, hcavitating⟩

theorem returnIdle_inRange {t : ParamTable} (ht : ParamsInRange t) (h : w.InRange t) : (returnIdle w).InRange t := by
  obtain ⟨h56, -⟩ := ht.row 56 (lo := 0) (hi := 9999) rfl
  exact
    { h with
      u := within_zero (by decide) (by decide), residue := within_zero (by decide) (by decide)
      trim := within_zero (by decide) h56, idle := fun _ => ⟨rfl, rfl, rfl, rfl⟩, primeCount := Nat.zero_le _
      primeRun := ⟨Nat.zero_le _, nofun⟩, limitedExit := ⟨Nat.zero_le _, nofun⟩
      blockedRun := ⟨Nat.zero_le _, by rintro (h | h) <;> exact absurd h nofun⟩, clearRun := ⟨Nat.zero_le _, nofun⟩ }

/-- A STOP at its arrival keeps the ranges of R129 (R145). -/
theorem returnStop_inRange {t : ParamTable} (ht : ParamsInRange t) (h : w.InRange t) : (returnStop w).InRange t :=
  { returnIdle_inRange ht h with flowTarget := within_zero (by decide) (by decide) }

/-- RUNNING is entered with the counts of PRIMING or BLOCKED moved within their limits (R137, R140). -/
theorem returnRun_inRange (hp : ParamsInRange i.params) (h : w.InRange i.params) {count prime clear : Nat}
    (hcount : count ≤ parN i.params 60) (hprime : prime ≤ 5) (hclear : clear ≤ 10) :
    (returnRun { w with primeCount := count, primeRun := prime, clearRun := clear }).InRange i.params := by
  obtain ⟨h61, -⟩ : within 1 1000 (par i.params 61) := hp.row 61 rfl
  have hlimit : 0 < parN i.params 61 := by unfold parN; omega
  exact
    { h with
      idle := nofun, primeCount := hcount, primeRun := ⟨hprime, nofun⟩, limitedExit := ⟨Nat.zero_le _, nofun⟩
      blockedRun := ⟨Nat.zero_le _, fun _ => hlimit⟩, clearRun := ⟨hclear, nofun⟩ }

/-- BLOCKED is entered with the counts of PRIMING, RUNNING or LIMITED moved within their limits (R137, R139). -/
theorem returnBlock_inRange (h : w.InRange i.params) {count prime run : Nat} (hcount : count ≤ parN i.params 60)
    (hprime : prime ≤ 5) (hrun : run ≤ parN i.params 61) :
    (returnBlock i { w with primeCount := count, primeRun := prime, blockedRun := run }).1.InRange i.params :=
  { h with
    idle := nofun, primeCount := hcount, primeRun := ⟨hprime, nofun⟩, limitedExit := ⟨h.limitedExit.1, nofun⟩
    blockedRun := ⟨hrun, by rintro (hs | hs) <;> exact absurd hs nofun⟩
    clearRun := ⟨Nat.zero_le _, fun _ => Nat.zero_lt_succ 9⟩ }

/-- R137: the prime run, at whose fifth the return runs, and the prime count, at whose limit it is blocked. -/
theorem returnPriming_inRange (hp : ParamsInRange i.params) (h : w.InRange i.params) (hstate : w.state = .priming) :
    (returnPriming i w).1.InRange i.params := by
  have hbelow := h.primeRun.2 hstate
  obtain ⟨run, hrun⟩ : ∃ run, (if par i.params 55 * 8 ≤ i.flow * 10 then w.primeRun + 1 else 0) = run := ⟨_, rfl⟩
  have hshort : run ≤ 5 := by rw [← hrun]; split <;> omega
  have hcount := satSucc_le (parN i.params 60) w.primeCount
  unfold returnPriming
  dsimp only
  rw [hrun]
  split_ifs with hfull
  · exact returnRun_inRange hp h hcount hshort h.clearRun.1
  · exact returnBlock_inRange h hcount hshort h.blockedRun.1
  · exact { h with primeCount := hcount, primeRun := ⟨hshort, fun _ => not_le.mp hfull⟩ }

/-- R138, R139: the blocked run and the limited exit run. -/
theorem returnRunning_inRange (h : w.InRange i.params) (hstate : w.state = .running ∨ w.state = .limited) :
    (returnRunning i w).1.InRange i.params := by
  have hbelow := h.blockedRun.2 hstate
  have hidle : w.state ≠ .idle := by rcases hstate with hs | hs <;> simp [hs]
  obtain ⟨run, hrun⟩ :
      ∃ run, (if 900 ≤ w.u ∧ i.flow * 5 ≤ runningTarget i w.trim then w.blockedRun + 1 else 0) = run := ⟨_, rfl⟩
  have hshort : run ≤ parN i.params 61 := by rw [← hrun]; split <;> omega
  obtain ⟨exits, hexits⟩ :
      ∃ exits, (if uncappedDemand i w.trim ≤ par i.params 56 then w.limitedExit + 1 else 0) = exits := ⟨_, rfl⟩
  have hexit : w.state = .limited → exits ≤ 10 := fun hs => by
    have hfew := h.limitedExit.2 hs
    rw [← hexits]
    split <;> omega
  unfold returnRunning
  dsimp only
  rw [hrun, hexits]
  split_ifs with hfull hrunning hover hclear
  · exact returnBlock_inRange h h.primeCount h.primeRun.1 hshort
  · exact
      { h with
        idle := nofun, primeRun := ⟨h.primeRun.1, nofun⟩, limitedExit := ⟨Nat.zero_le _, fun _ => Nat.zero_lt_succ 9⟩
        blockedRun := ⟨hshort, fun _ => not_le.mp hfull⟩, clearRun := ⟨h.clearRun.1, nofun⟩ }
  · exact { h with blockedRun := ⟨hshort, fun _ => not_le.mp hfull⟩ }
  · exact
      { h with
        idle := nofun, primeRun := ⟨h.primeRun.1, nofun⟩
        limitedExit := ⟨hexit (hstate.resolve_left hrunning), nofun⟩
        blockedRun := ⟨hshort, fun _ => not_le.mp hfull⟩, clearRun := ⟨h.clearRun.1, nofun⟩ }
  · exact
      { h with
        limitedExit := ⟨hexit (hstate.resolve_left hrunning), fun _ => not_le.mp hclear⟩
        blockedRun := ⟨hshort, fun _ => not_le.mp hfull⟩ }

/-- R140: the clear run. -/
theorem returnBlockedState_inRange (hp : ParamsInRange i.params) (h : w.InRange i.params) (hstate : w.state = .blocked) :
    (returnBlockedState i w).InRange i.params := by
  have hbelow := h.clearRun.2 hstate
  obtain ⟨run, hrun⟩ : ∃ run, (if runningTarget i w.trim ≤ i.flow * 2 then w.clearRun + 1 else 0) = run := ⟨_, rfl⟩
  have hshort : run ≤ 10 := by rw [← hrun]; split <;> omega
  unfold returnBlockedState
  dsimp only
  rw [hrun]
  split_ifs with hfull
  · exact returnRun_inRange hp h h.primeCount h.primeRun.1 hshort
  · exact { h with clearRun := ⟨hshort, fun _ => not_le.mp hfull⟩ }

/-- Stage 2 keeps the ranges (R136 to R140). -/
theorem returnTransition_inRange (hp : ParamsInRange i.params) (h : (w.trimmed i).InRange i.params) :
    (returnTransition i (w.trimmed i)).1.InRange i.params := by
  by_cases hmode : i.mode = .stop
  · have he : returnTransition i (w.trimmed i) = (returnIdle (w.trimmed i), []) := if_pos hmode
    rw [he]
    exact returnIdle_inRange hp h
  by_cases hidle : w.state = .idle
  · obtain ⟨h60, -⟩ : within 1 30000 (par i.params 60) := hp.row 60 rfl
    have hlimit : 1 ≤ parN i.params 60 := by unfold parN; omega
    rw [returnTransition_of_idle hmode hidle]
    exact
      { returnIdle_inRange hp h with
        idle := nofun, primeCount := hlimit, primeRun := ⟨Nat.zero_le _, fun _ => Nat.zero_lt_succ 4⟩
        limitedExit := ⟨Nat.zero_le _, nofun⟩
        blockedRun := ⟨Nat.zero_le _, by rintro (hs | hs) <;> exact absurd hs nofun⟩, clearRun := ⟨Nat.zero_le _, nofun⟩ }
  cases hflow : i.flowValid with
  | false =>
    rw [returnTransition_of_invalid hmode hidle hflow]
    exact h
  | true =>
    cases hstate : w.state with
    | idle => exact absurd hstate hidle
    | priming =>
      rw [returnTransition_of_priming hmode hstate hflow]
      exact returnPriming_inRange hp h hstate
    | running =>
      rw [returnTransition_of_running hmode (.inl hstate) hflow]
      exact returnRunning_inRange h (.inl hstate)
    | limited =>
      rw [returnTransition_of_running hmode (.inr hstate) hflow]
      exact returnRunning_inRange h (.inr hstate)
    | blocked =>
      rw [returnTransition_of_blocked hmode hstate hflow]
      exact returnBlockedState_inRange hp h hstate

/-- R141: outside IDLE the cavitation condition is free. -/
theorem returnCavitation_inRange (h : w.InRange i.params) : (returnCavitation i w).1.InRange i.params := by
  unfold returnCavitation
  split_ifs with hidle
  · obtain ⟨hu, hresidue, htrim, -⟩ := h.idle hidle
    exact { h with idle := fun _ => ⟨hu, hresidue, htrim, rfl⟩ }
  · exact h
  · exact { h with idle := fun hs => absurd hs hidle }
  · exact { h with idle := fun hs => absurd hs hidle }
  · exact h

theorem returnTarget_inRange (hp : ParamsInRange i.params) (h : w.InRange i.params) :
    (returnTarget i w).InRange i.params := by
  refine { h with flowTarget := ?_ }
  unfold returnTarget
  dsimp only
  cases w.state with
  | idle => exact within_zero (by decide) (by decide)
  | priming => exact hp.row 55 rfl
  | running | limited | blocked => exact runningTarget_range hp h.trim.1

/-- R135, R142: the pump output. -/
theorem returnPump_inRange (h : w.InRange i.params) : (returnPump i w).InRange i.params := by
  obtain ⟨huLo, huHi⟩ := h.u
  have hzero : within (-255) 255 0 := within_zero (by decide) (by decide)
  have hfalls : within 0 1000 (max 0 (w.u - 5)) := by constructor <;> omega
  unfold returnPump
  split_ifs with hidle
  · obtain ⟨-, -, htrim, hcavitating⟩ := h.idle hidle
    exact
      { h with
        u := within_zero (by decide) (by decide), residue := hzero, idle := fun _ => ⟨rfl, rfl, htrim, hcavitating⟩ }
  · exact { h with u := hfalls, residue := hzero, idle := fun hs => absurd hs hidle }
  · exact h
  · obtain ⟨hu, hresidue⟩ :=
      integralStep_within (par i.params 57) (w.flowTarget - i.flow) (par i.params 26) w.u w.residue
    exact { h with u := hu, residue := hresidue, idle := fun hs => absurd hs hidle }

/-- A compute keeps the ranges of R129. -/
theorem returnCompute_inRange (hp : ParamsInRange i.params) (h : w.InRange i.params) :
    (returnCompute i w).1.InRange i.params :=
  returnPump_inRange (returnTarget_inRange hp (returnCavitation_inRange
    (returnTransition_inRange hp (trimmed_inRange hp h))))

end Return

end Sys2Proof.Machine

/-! ## Every value in its range

What each command does to the ranges of the station: the resets, the rows, the front end, a compute, and then every effect.
Settlement of O43. -/

namespace Sys2Proof.Machine

/-! ### The resets -/

/-- The station at the values that both resets give, the parameters and the offsets apart (R167, R168). -/
structure State.AtReset (s : State) : Prop where
  params : ParamsInRange s.control.params
  row0 : s.row0 = .never
  rows : ∀ n, s.row n = .never
  pulse1 : s.front.pulse1.count = 0 ∧ s.front.pulse1.ring = [] ∧ s.front.pulse1.speed = 0
  pulse2 : s.front.pulse2.count = 0 ∧ s.front.pulse2.ring = [] ∧ s.front.pulse2.speed = 0
  pairSpeed : s.front.pairSpeed = 0
  inputs : ∀ i, s.input i = Analog.reset
  wheel : s.wheel = Wheel.reset
  arb : s.arb = Arbitration.reset
  ret : s.ret = Return.reset
  steer : ∃ t w, Steer.InRange t w ∧ s.steer = w.restarted
  ch0 : s.ch0 = ⟨0, 0⟩
  ch1 : s.ch1 = ⟨0, 0⟩

theorem Pulse.inRange_of_empty {w : Nat} {p : Pulse} (h : p.count = 0 ∧ p.ring = [] ∧ p.speed = 0) : p.InRange w := by
  obtain ⟨hcount, hring, hspeed⟩ := h
  exact
    { count := by omega, ring := by simp [hring], entries := by simp [hring]
      speed := by rw [hspeed]; exact within_zero (by decide) (by decide) }

theorem Analog.reset_inRange (range : Int × Int) : Analog.reset.InRange range :=
  ⟨by decide, by decide, by decide, by decide, nofun⟩

theorem Channel.zero_inRange {lo : Int} (h : lo ≤ 0) : (⟨0, 0⟩ : Channel).InRange lo :=
  ⟨within_zero h (by decide), within_zero h (by decide)⟩

theorem State.least0_nonpos (s : State) : s.least0 ≤ 0 := by
  unfold State.least0
  split <;> decide

theorem State.AtReset.rangeInv {s : State} (h : s.AtReset) : RangeInv s := by
  obtain ⟨t, w, hw, hsteer⟩ := h.steer
  exact
    { params := h.params
      demand := fun d hd => by rw [h.row0] at hd; exact absurd hd nofun
      row0 := by rw [h.row0]; trivial
      rows := fun n => by rw [h.rows]; trivial
      pulse1 := Pulse.inRange_of_empty h.pulse1
      pulse2 := Pulse.inRange_of_empty h.pulse2
      pairSpeed := by rw [h.pairSpeed]; exact within_zero (by decide) (by decide)
      analog := fun i => by rw [h.inputs]; exact Analog.reset_inRange _
      wheel := by rw [h.wheel]; exact Wheel.reset_inRange h.params
      arb := by rw [h.arb]; exact Arbitration.reset_inRange h.params
      steer := by rw [hsteer]; exact Steer.restarted_inRange hw
      ret := by rw [h.ret]; exact Return.reset_inRange h.params
      ch0 := by rw [h.ch0]; exact Channel.zero_inRange s.least0_nonpos
      ch1 := by rw [h.ch1]; exact Channel.zero_inRange le_rfl
      unused1 := fun _ => h.ch1
      atRest := fun _ _ => ⟨h.wheel, h.arb, h.ret, by rw [hsteer]; rfl⟩ }

theorem State.powerOn_atReset (s : State) (hold : ResetHold) : (s.powerOn hold).AtReset where
  params := paramsInRange_defaults
  row0 := rfl
  rows := State.reset_row
  pulse1 := ⟨rfl, rfl, rfl⟩
  pulse2 := ⟨rfl, rfl, rfl⟩
  pairSpeed := rfl
  inputs := State.input_of_reset rfl
  wheel := rfl
  arb := rfl
  ret := rfl
  steer := ⟨paramDefaults, Steer.reset, Steer.reset_inRange _, rfl⟩
  ch0 := rfl
  ch1 := rfl

theorem State.restarted_atReset {s : State} (h : RangeInv s) : s.restarted.AtReset :=
  { s.powerOn_atReset s.hold with params := h.params, steer := ⟨_, s.steer, h.steer, rfl⟩ }

/-- Reading the straps starts the filters and leaves every value of the blocks (R159). -/
theorem State.AtReset.readStraps {s : State} (h : s.AtReset) (straps : Straps) : (s.readStraps straps).AtReset := by
  cases hvalid : strapsValid straps with
  | false =>
    rw [s.readStraps_invalid hvalid]
    exact { h with }
  | true =>
    rw [s.readStraps_valid hvalid]
    exact { h with }

/-! ### What the ranges read of the station -/

/-- `t` agrees with `s` on all that the range invariant reads. -/
structure State.SameRanged (s t : State) : Prop where
  control : t.control = s.control
  row0 : t.row0 = s.row0
  rows : t.rows = s.rows
  front : t.front = s.front
  wheel : t.wheel = s.wheel
  arb : t.arb = s.arb
  steer : t.steer = s.steer
  ret : t.ret = s.ret
  ch0 : t.ch0 = s.ch0
  ch1 : t.ch1 = s.ch1

section

variable {s t : State}

theorem RangeInv.of_same (h : RangeInv s) (hsame : s.SameRanged t) : RangeInv t := by
  obtain ⟨hcontrol, hrow0, hrows, hfront, hwheel, harb, hsteer, hret, hch0, hch1⟩ := hsame
  have hrow (n : Nat) : t.row n = s.row n := by rw [State.row, State.row, hrows]
  have hinput (i : Fin 4) : t.input i = s.input i := by rw [State.input, State.input, hfront]
  have hrole : t.role = s.role := by rw [State.role, State.role, hcontrol]
  have hleast : t.least0 = s.least0 := by rw [State.least0, State.least0, hrole]
  constructor
  all_goals
    simp only [hcontrol, hrow0, hrow, hfront, hinput, hrole, hleast, hwheel, harb, hsteer, hret, hch0, hch1]
  exacts [h.params, h.demand, h.row0, h.rows, h.pulse1, h.pulse2, h.pairSpeed, h.analog, h.wheel, h.arb, h.steer, h.ret,
    h.ch0, h.ch1, h.unused1, h.atRest]

/-- Station state and settled flag change; parameters and straps stand. -/
theorem RangeInv.of_control (h : RangeInv s) {c : Control} (hparams : c.params = s.control.params)
    (hstraps : c.straps = s.control.straps)
    (hrests : c.station.computes = false → c.station ≠ .clash →
      s.control.station.computes = false ∧ s.control.station ≠ .clash) : RangeInv { s with control := c } := by
  obtain ⟨straps, station, params, settled, validated, failing, count⟩ := c
  obtain rfl : straps = s.control.straps := hstraps
  obtain rfl : params = s.control.params := hparams
  exact { h with atRest := fun hc hn => h.atRest (hrests hc hn).1 (hrests hc hn).2 }

/-! ### Rows -/

/-- A heard row that is not LOST is at most 49 marks old (R46). -/
theorem Row.young_of_sound {α : Type} {life : Life} {age : Nat} {c : α} (hlife : life ≠ .lost)
    (h : (Row.heard life age c).sound) : age ≤ 49 := by
  cases life with
  | fresh => exact Nat.le_trans h (by decide)
  | stale => exact h.2
  | lost => exact absurd rfl hlife

theorem RowAges.sound {α : Type} {limit : Int} {before after : Row α} (h : RowAges limit before after)
    (hlimit : within 3 50 limit) (hsound : before.sound) : after.sound := by
  obtain ⟨hlow, hhigh⟩ := hlimit
  cases before with
  | never => exact h ▸ trivial
  | heard life age c =>
    cases life with
    | lost =>
      obtain ⟨hold, -⟩ : 3 ≤ age ∧ age ≤ 255 := hsound
      rw [show after = _ from h]
      change 3 ≤ min 255 (age + 1) ∧ min 255 (age + 1) ≤ 255
      omega
    | fresh | stale =>
      have hyoung := Row.young_of_sound (by decide) hsound
      rw [show after = _ from h]
      split_ifs
      · change 3 ≤ min 255 (age + 1) ∧ min 255 (age + 1) ≤ 255
        omega
      · change 2 ≤ min 255 (age + 1) ∧ min 255 (age + 1) ≤ 49
        omega
      · change min 255 (age + 1) ≤ 1
        omega

theorem RowAges.content {α : Type} {limit : Int} {before after : Row α} (h : RowAges limit before after) :
    after.content? = before.content? := by
  cases before with
  | never => exact h ▸ rfl
  | heard life age c => cases life <;> exact h ▸ rfl

theorem handleDemand_inRange (before : Direction) (f : DemandFields) : (handleDemand before f).InRange := by
  rw [handleDemand_eq]
  constructor <;> constructor <;> dsimp only <;> omega

/-- A demanded figure lies in its range; it reads 0 while row 0 is NEVER. -/
theorem RangeInv.demandField (h : RangeInv s) {f : DemandContent → Int} {lo hi : Int} (hlo : lo ≤ 0) (hhi : 0 ≤ hi)
    (hf : ∀ d : DemandContent, d.InRange → within lo hi (f d)) : within lo hi (s.demandField f) := by
  unfold State.demandField State.demandHeld
  cases hcontent : s.row0.content? with
  | none => exact within_zero hlo hhi
  | some d => exact hf d (h.demand d hcontent)

/-! ### The front end -/

theorem Pulse.sample_inRange {w : Nat} {p : Pulse} (h : p.InRange w) (select : Int) (level : Level) :
    (p.sample select level).InRange w := by
  have hcount := satSucc_le 65535 p.count
  unfold Pulse.sample
  split_ifs
  · exact h
  · exact { h with }
  · exact { h with count := hcount }
  · exact { h with }
  · exact { h with }

theorem PulseCloses.inRange {w : Nat} {first : Bool} {before after : Pulse} (h : PulseCloses w first before after)
    (hbefore : before.InRange w) : after.InRange w := by
  obtain ⟨hcount, hring, hrest⟩ := h
  have hspeed : after.speed = before.speed := by rw [hrest]
  refine ⟨by omega, ?_, ?_, by rw [hspeed]; exact hbefore.speed⟩ <;> rw [hring]
  · split
    · exact hbefore.ring
    · rw [List.length_drop, List.length_append, List.length_singleton]
      omega
  · split
    · exact hbefore.entries
    · intro c hc
      rcases List.mem_append.mp (List.mem_of_mem_drop hc) with hold | hnew
      · exact hbefore.entries c hold
      · rw [List.mem_singleton.mp hnew]
        exact hbefore.count

/-- A ring cut to its newest entries (R58). -/
theorem Pulse.cut_inRange {w : Nat} {p : Pulse} (h : p.InRange w) (w' : Nat) :
    ({ p with ring := newest w' p.ring } : Pulse).InRange w' :=
  { h with
    ring := by unfold newest; rw [List.length_drop]; omega
    entries := fun c hc => h.entries c (List.mem_of_mem_drop hc) }

theorem ringSpeed_within {t : ParamTable} (ht : ParamsInRange t) (ring : List Nat) : within 0 999 (ringSpeed t ring) := by
  obtain ⟨h1, -⟩ := ht.row 1 (lo := 5) (hi := 40) rfl
  obtain ⟨h10, -⟩ := ht.row 10 (lo := 512) (hi := 8192) rfl
  unfold ringSpeed
  split
  · exact within_zero (by decide) (by decide)
  · next hring =>
    have hlength : (0 : Int) < ring.length := by exact_mod_cast List.length_pos_iff.mpr hring
    have hd : 0 < par t 10 * ring.length * par t 1 := Int.mul_pos (Int.mul_pos (by omega) hlength) (by omega)
    have hquot : 0 ≤ divHalfUp ((ring.sum : Int) * 600000) (par t 10 * ring.length * par t 1) := by
      rw [divHalfUp_eq (by positivity) hd]
      exact Int.ediv_nonneg (by positivity) hd.le
    constructor <;> omega

theorem pairSpeedOf_within (fault : Option PulseInput) {a b : Int} (ha : within 0 999 a) (hb : within 0 999 b) :
    within 0 999 (pairSpeedOf fault a b) := by
  obtain ⟨haLo, haHi⟩ := ha
  obtain ⟨hbLo, hbHi⟩ := hb
  cases fault with
  | some input => cases input <;> exact ⟨by assumption, by assumption⟩
  | none =>
    change within 0 999 ((a + b).tdiv 2)
    rw [Int.tdiv_eq_ediv_of_nonneg (by omega)]
    constructor <;> omega

theorem scaleRaw_within {range : Int × Int} (h : range.1 ≤ range.2) (lo hi : Int) (raw : BitVec 12) :
    within range.1 range.2 (scaleRaw lo hi range raw) := clamp_within h _

/-- R65: one compute of an input, by its sample and its status. -/
theorem Analog.treat_inRange {range : Int × Int} {a : Analog} (hrange : range.1 ≤ range.2) (h : a.InRange range)
    (lo hi : Int) : (a.treat lo hi range).InRange range := by
  unfold Analog.treat
  split
  · exact
      ⟨Nat.zero_le _, fun _ => rfl, nofun, fun _ => rfl,
        fun v hv => Option.some.inj hv ▸ scaleRaw_within hrange lo hi a.raw⟩
  · obtain ⟨raw, status, faults, lastGood⟩ := a
    cases status with
    | good => exact ⟨Nat.succ_le_succ (Nat.zero_le _), nofun, nofun, fun _ => h.supplied rfl, h.value⟩
    | faulted => exact ⟨le_rfl, nofun, fun _ => rfl, nofun, h.value⟩
    | unread =>
      dsimp only
      split
      · next hfew => exact ⟨hfew.le, nofun, nofun, nofun, h.value⟩
      · exact ⟨le_rfl, nofun, fun _ => rfl, nofun, h.value⟩
    | held =>
      dsimp only
      split
      · next hfew => exact ⟨hfew.le, nofun, nofun, fun _ => h.supplied rfl, h.value⟩
      · exact ⟨le_rfl, nofun, fun _ => rfl, nofun, h.value⟩

/-- The value of an input lies in the range of its quantity, where that holds 0. -/
theorem Analog.InRange.value_within {lo hi : Int} {a : Analog} (h : a.InRange (lo, hi)) (hlo : lo ≤ 0) (hhi : 0 ≤ hi) :
    within lo hi a.value := by
  unfold Analog.value
  cases hgood : a.lastGood with
  | none => exact within_zero hlo hhi
  | some v => exact h.value v hgood

/-! ### A mark, a REPORT and a DEMAND -/

/-- What a mark does to station control: outside SETUP nothing; in SETUP it counts, below 300, or validates (R160). -/
theorem MarkEffect.control_cases {n : Half} (heffect : MarkEffect s n t) :
    (s.control.station ≠ .setup ∧ t.control = s.control) ∨
      (s.control.station = .setup ∧ ∃ count < 300, t.control = { s.control with setupCount := count }) ∨
      (s.control.station = .setup ∧
        ∃ count, t.control = ({ s with control := { s.control with setupCount := count } } : State).validate.control) := by
  by_cases hsetup : s.control.station = .setup
  · rcases Nat.lt_or_ge (s.control.setupCount + 1) 300 with hlt | hge
    · exact .inr (.inl ⟨hsetup, _, hlt, heffect.window hsetup hlt⟩)
    · exact .inr (.inr ⟨hsetup, _, heffect.closed hsetup hge⟩)
  · exact .inl ⟨hsetup, heffect.noWindow hsetup⟩

theorem MarkEffect.params {n : Half} (heffect : MarkEffect s n t) : t.control.params = s.control.params := by
  rcases heffect.control_cases with ⟨-, he⟩ | ⟨-, count, -, he⟩ | ⟨-, count, he⟩ <;> rw [he]
  exact State.validate_params _

theorem MarkEffect.straps {n : Half} (heffect : MarkEffect s n t) : t.control.straps = s.control.straps := by
  rcases heffect.control_cases with ⟨-, he⟩ | ⟨-, count, -, he⟩ | ⟨-, count, he⟩ <;> rw [he]
  exact State.validate_straps _

/-- A mark ages the rows, closes the pulse counts, applies channels and hands the differential over (R26). -/
theorem MarkEffect.rangeInv {n : Half} (heffect : MarkEffect s n t) (h : RangeInv s) : RangeInv t := by
  have hparams := heffect.params
  have hrole : t.role = s.role := by rw [State.role, State.role, heffect.straps]
  have hleast : t.least0 = s.least0 := by rw [State.least0, State.least0, hrole]
  have hlimit : within 3 50 (s.param 3) := h.params.row 3 rfl
  have hinput (i : Fin 4) : t.input i = s.input i := by rw [State.input, heffect.front]; rfl
  obtain ⟨-, -, hwheel, hsteer, hret, -⟩ := heffect.frame
  have happlied {lo : Int} {c : Channel} (hc : c.InRange lo) (p : Prop) [Decidable p] :
      (⟨c.staged, if p then c.applied else c.staged⟩ : Channel).InRange lo := by
    refine ⟨hc.staged, ?_⟩
    dsimp only
    split
    · exact hc.applied
    · exact hc.staged
  exact
    { params := hparams ▸ h.params
      demand := fun d hd => h.demand d (heffect.row0.content ▸ hd)
      row0 := heffect.row0.sound hlimit h.row0
      rows := fun k => (heffect.rows k).sound hlimit (h.rows k)
      pulse1 := hparams ▸ heffect.pulse1.inRange h.pulse1
      pulse2 := hparams ▸ heffect.pulse2.inRange h.pulse2
      pairSpeed := by rw [heffect.front]; exact h.pairSpeed
      analog := fun i => by rw [hinput, hrole]; exact h.analog i
      wheel := by rw [hwheel, hparams]; exact h.wheel
      arb := by
        rw [heffect.arb, hparams]
        split
        · exact { h.arb with inEffect := h.arb.next }
        · exact h.arb
      steer := by rw [hsteer, hparams]; exact h.steer
      ret := by rw [hret, hparams]; exact h.ret
      ch0 := by rw [heffect.ch0, hleast]; exact happlied h.ch0 _
      ch1 := by rw [heffect.ch1]; exact happlied h.ch1 _
      unused1 := fun hother => by
        rw [heffect.ch1, h.unused1 (hrole ▸ hother)]
        exact congrArg _ (ite_self 0)
      atRest := fun hrests hclash => by
        have hbefore : s.control.station.computes = false ∧ s.control.station ≠ .clash := by
          rcases heffect.control_cases with ⟨-, he⟩ | ⟨hsetup, -⟩ | ⟨hsetup, -⟩
          · exact he ▸ ⟨hrests, hclash⟩
          · rw [hsetup]; exact ⟨rfl, nofun⟩
          · rw [hsetup]; exact ⟨rfl, nofun⟩
        obtain ⟨hw, ha, hr, hs⟩ := h.atRest hbefore.1 hbefore.2
        refine ⟨hwheel.trans hw, ?_, hret.trans hr, by rw [hsteer]; exact hs⟩
        rw [heffect.arb, ha]
        exact ite_self _ }

theorem State.takeMark_rangeInv (h : RangeInv s) (origin : MarkOrigin) (n : Half) : RangeInv (s.takeMark origin n) := by
  cases hworking : s.control.station.working with
  | true => exact (State.takeMark_effect hworking origin n).1.rangeInv h
  | false => rw [State.takeMark_of_not_working hworking]; exact h

/-- A REPORT refreshes its row, and a follower adopts (R43, R107). -/
theorem State.takeReport_rangeInv (h : RangeInv s) {n : Nat} (hn : 1 ≤ n ∧ n ≤ 14) (r : Report) :
    RangeInv (s.takeReport n r) := by
  have hrefreshed : RangeInv (s.refreshRow n r) := by
    refine { h with rows := fun k => ?_ }
    by_cases hk : k = n
    · subst hk
      rw [State.refreshRow_row_same s r hn]
      exact Nat.zero_le 1
    · rw [State.refreshRow_row_other s r hn.1 hk]
      exact h.rows k
  unfold State.takeReport
  dsimp only
  split
  · refine { hrefreshed with arb := arbAdopt_inRange h.params h.arb n r, atRest := fun hrests hclash => ?_ }
    obtain ⟨hw, ha, hr, hs⟩ := h.atRest hrests hclash
    refine ⟨hw, ?_, hr, hs⟩
    change arbAdopt s.control.params n r s.arb = _
    rw [ha]
    unfold arbAdopt
    split
    · exact if_neg fun hfollows => absurd hfollows.1 nofun
    · rfl
  · exact hrefreshed

/-- A DEMAND stores handled fields; a STOP stops the loop or the return (R42, R165, R35, R90, R145). -/
theorem State.takeDemand_rangeInv (h : RangeInv s) (f : DemandFields) : RangeInv (s.takeDemand f) := by
  have hdemand := handleDemand_inRange s.directionBefore f
  obtain ⟨d, hd⟩ : ∃ d, handleDemand s.directionBefore f = d := ⟨_, rfl⟩
  cases hcomputes : s.control.station.computes with
  | false =>
    rw [State.takeDemand_of_not_computes hcomputes, hd]
    rw [hd] at hdemand
    exact { h with demand := fun d' hd' => Option.some.inj hd' ▸ hdemand, row0 := Nat.zero_le 1 }
  | true =>
    have hwheel (p : Prop) [Decidable p] : (if p then (wheelStop s.wheel).1 else s.wheel).InRange s.control.params := by
      split
      · exact wheelStop_inRange h.wheel
      · exact h.wheel
    have hret (p : Prop) [Decidable p] : (if p then returnStop s.ret else s.ret).InRange s.control.params := by
      split
      · exact returnStop_inRange h.params h.ret
      · exact h.ret
    have hsteer (p : Prop) [Decidable p] :
        (if p then { s.steer with resetPending := true } else s.steer).InRange s.control.params := by
      split
      · exact { h.steer with }
      · exact h.steer
    have hch0 (p : Prop) [Decidable p] : (if p then ⟨0, 0⟩ else s.ch0 : Channel).InRange s.least0 := by
      split
      · exact Channel.zero_inRange s.least0_nonpos
      · exact h.ch0
    rw [hd] at hdemand
    have hcontent (d' : DemandContent) (hd' : (Row.heard .fresh 0 d).content? = some d') : d'.InRange :=
      Option.some.inj hd' ▸ hdemand
    have hsound : (Row.heard .fresh 0 d).sound := Nat.zero_le 1
    have hstopped : RangeInv { s with
        row0 := .heard .fresh 0 d
        control := { s.control with station := .active }
        ch0 := if d.mode = .stop ∧ (s.role = some .wheel ∨ s.role = some .ret) then ⟨0, 0⟩ else s.ch0
        wheel := if d.mode = .stop ∧ s.role = some .wheel then (wheelStop s.wheel).1 else s.wheel
        ret := if d.mode = .stop ∧ s.role = some .ret then returnStop s.ret else s.ret
        steer := if s.role = some .steer ∧ f.offsetReset ≠ 0 then { s.steer with resetPending := true } else s.steer } :=
      { h with
        demand := hcontent, row0 := hsound, wheel := hwheel _, ret := hret _, steer := hsteer _, ch0 := hch0 _
        atRest := fun hrests => absurd hrests nofun }
    rw [State.takeDemand_of_computes hcomputes, hd]
    refine hstopped.of_same ?_
    constructor <;> simp only [State.raised_rows, State.raised_front, State.raised_arb, State.raised_ch1]

/-! ### A compute -/

theorem State.ComputesTo.pulses (hto : s.ComputesTo t) :
    t.front.pulse1 = { s.front.pulse1 with speed := ringSpeed s.control.params s.front.pulse1.ring } ∧
      t.front.pulse2 = { s.front.pulse2 with speed := ringSpeed s.control.params s.front.pulse2.ring } := by
  have hrole : s.stopCompute.noteSample.role = s.role := rfl
  rw [hto.front]
  unfold State.atRole State.fronted
  rw [hrole]
  split <;> exact ⟨rfl, rfl⟩

theorem State.ComputesTo.pulse1_inRange (hto : s.ComputesTo t) (h : RangeInv s) :
    t.front.pulse1.InRange (parN s.control.params 11) := by
  rw [hto.pulses.1]
  exact { h.pulse1 with speed := ringSpeed_within h.params _ }

theorem State.ComputesTo.pulse2_inRange (hto : s.ComputesTo t) (h : RangeInv s) :
    t.front.pulse2.InRange (parN s.control.params 11) := by
  rw [hto.pulses.2]
  exact { h.pulse2 with speed := ringSpeed_within h.params _ }

theorem State.ComputesTo.pairSpeed_within (hto : s.ComputesTo t) (h : RangeInv s) : within 0 999 t.front.pairSpeed := by
  rw [hto.pairSpeed]
  split
  · exact pairSpeedOf_within _ (hto.pulse1_inRange h).speed (hto.pulse2_inRange h).speed
  · exact h.pairSpeed

theorem State.ComputesTo.input_inRange (hto : s.ComputesTo t) (h : RangeInv s) (i : Fin 4) :
    (t.input i).InRange (quantityRange s.role i) := by
  rw [hto.input]
  split
  · exact Analog.treat_inRange (quantityRange_ordered s.role i) (h.analog i) _ _
  · exact h.analog i

/-- What the roles read at a compute lies in its range: the front end's values are those the compute leaves. -/
theorem State.ComputesTo.wheelInput_inRange (hto : s.ComputesTo t) (h : RangeInv s) : s.atRole.wheelInput.InRange where
  params := h.params
  baseSpeed := h.demandField (by decide) (by decide) fun _ hd => hd.baseSpeed
  pairSpeed := by
    have hpair := hto.pairSpeed_within h
    rw [hto.front] at hpair
    exact hpair

theorem RangeInv.arbInput_inRange (h : RangeInv s) : s.atRole.arbInput.InRange where
  params := h.params
  wheels p hp := by
    obtain ⟨hlow, hhigh, -⟩ := (s.atRole.mem_usableOf .wheel p.1 p.2).mp hp
    exact ⟨hlow, hhigh⟩

theorem State.ComputesTo.steerInput_inRange (hto : s.ComputesTo t) (h : RangeInv s) (hrole : s.role = some .steer) :
    s.atRole.steerInput.InRange := by
  have hinput (i : Fin 4) : s.atRole.input i = t.input i := by rw [State.input, State.input, hto.front]
  have hvalue (i : Fin 4) (hi : i.val < 2) : within (-20000) 20000 (s.atRole.input i).value := by
    have hanalog := hto.input_inRange h i
    have hrange : quantityRange s.role i = (-20000, 20000) := by
      rw [hrole]
      exact if_pos hi
    rw [hrange, ← hinput] at hanalog
    exact hanalog.value_within (by decide) (by decide)
  have hch0 := h.ch0
  rw [show s.least0 = 0 from if_neg (by rw [hrole]; decide)] at hch0
  exact ⟨hvalue 0 (by decide), hvalue 1 (by decide), hch0.applied, h.ch1.applied,
    h.demandField (by decide) (by decide) fun _ hd => hd.depth⟩

/-- The role computation keeps the ranges of the roles (R31). -/
theorem State.ComputesTo.roles_inRange (hto : s.ComputesTo t) (h : RangeInv s) :
    t.wheel.InRange s.control.params ∧ t.arb.InRange s.control.params ∧ t.steer.InRange s.control.params ∧
      t.ret.InRange s.control.params := by
  obtain ⟨hnoWheel, hnoSteer, hnoRet⟩ := s.atRole.roleStep_others
  rw [hto.wheel, hto.arb, hto.steer, hto.ret]
  refine ⟨?_, ?_, ?_, ?_⟩
  · by_cases hrole : s.role = some .wheel
    · rw [(s.atRole.roleStep_wheel hrole).1]
      exact wheelCompute_inRange (hto.wheelInput_inRange h) h.wheel
    · rw [(hnoWheel hrole).1]
      exact h.wheel
  · by_cases hrole : s.role = some .wheel
    · rw [(s.atRole.roleStep_wheel hrole).2.1]
      exact arbCompute_inRange h.arbInput_inRange h.arb
    · rw [(hnoWheel hrole).2]
      exact h.arb
  · by_cases hrole : s.role = some .steer
    · rw [(s.atRole.roleStep_steer hrole).1]
      exact steerCompute_inRange (hto.steerInput_inRange h hrole) h.steer
    · rw [hnoSteer hrole]
      exact h.steer
  · by_cases hrole : s.role = some .ret
    · rw [(s.atRole.roleStep_ret hrole).1]
      exact returnCompute_inRange (i := s.atRole.returnInput) h.params h.ret
    · rw [hnoRet hrole]
      exact h.ret

theorem Channel.applied_inRange {lo : Int} {c : Channel} (h : c.InRange lo) (p : Prop) [Decidable p] :
    (if p then c.apply else c).InRange lo := by
  split
  · exact ⟨h.staged, h.staged⟩
  · exact h

/-- The role computation stages values in range (R34). -/
theorem State.ComputesTo.channels_inRange (hto : s.ComputesTo t) (h : RangeInv s) :
    t.ch0.InRange s.least0 ∧ t.ch1.InRange 0 := by
  obtain ⟨hwheel, -, hsteer, hret⟩ := hto.roles_inRange h
  obtain ⟨hstaged0, hstaged1, happlied0, happlied1⟩ := s.atRole.roleStep_staged
  rw [← hto.wheel, ← hto.steer, ← hto.ret] at hstaged0
  rw [← hto.steer] at hstaged1
  have hrole : s.atRole.role = s.role := rfl
  rw [hrole] at hstaged0 hstaged1
  have hch0 : within s.least0 1000 s.atRole.roleStep.ch0.staged := by
    have hlow : s.least0 ≤ 0 := s.least0_nonpos
    rw [hstaged0]
    cases hr : s.role with
    | none => exact h.ch0.staged
    | some role =>
      have hleast : s.least0 = if role = .wheel then -1000 else 0 := by
        unfold State.least0
        rw [hr]
        exact if_congr (by simp) rfl rfl
      cases role with
      | wheel =>
        dsimp only
        split
        · exact within_zero hlow (by decide)
        · rw [hleast]
          exact hwheel.drive
      | steer =>
        rw [hleast]
        exact hsteer.flapL
      | ret =>
        dsimp only
        split
        · exact within_zero hlow (by decide)
        · rw [hleast]
          exact hret.u
  have hch1 : within 0 1000 s.atRole.roleStep.ch1.staged := by
    rw [hstaged1]
    split
    · exact hsteer.flapR
    · exact h.ch1.staged
  rw [hto.ch0, hto.ch1]
  exact ⟨Channel.applied_inRange ⟨hch0, by rw [happlied0]; exact h.ch0.applied⟩ _,
    Channel.applied_inRange ⟨hch1, by rw [happlied1]; exact h.ch1.applied⟩ _⟩

/-- Channel 1 stands where the station is no STEER station. -/
theorem State.ComputesTo.ch1_unused (hto : s.ComputesTo t) (h : RangeInv s) (hother : s.role ≠ some .steer) :
    t.ch1 = ⟨0, 0⟩ := by
  obtain ⟨-, hstaged, -, happlied⟩ := s.atRole.roleStep_staged
  have hrole : s.atRole.role ≠ some .steer := hother
  have hbefore : s.atRole.ch1 = ⟨0, 0⟩ := h.unused1 hother
  rw [if_neg hrole, hbefore] at hstaged
  rw [hbefore] at happlied
  have hch1 : s.atRole.roleStep.ch1 = ⟨0, 0⟩ := by
    cases hc : s.atRole.roleStep.ch1 with
    | mk staged applied =>
      rw [hc] at hstaged happlied
      exact congrArg₂ Channel.mk hstaged happlied
  rw [hto.ch1, hch1]
  exact ite_self _

/-- A compute keeps every range (R31). -/
theorem State.ComputesTo.rangeInv (hto : s.ComputesTo t) (h : RangeInv s) (hcomputes : s.control.station.computes = true) :
    RangeInv t := by
  have hrole : t.role = s.role := by rw [State.role, State.role, hto.control]
  have hleast : t.least0 = s.least0 := by rw [State.least0, State.least0, hrole]
  have hrow (k : Nat) : t.row k = s.row k := by rw [State.row, State.row, hto.rows]
  obtain ⟨hwheel, harb, hsteer, hret⟩ := hto.roles_inRange h
  obtain ⟨hch0, hch1⟩ := hto.channels_inRange h
  exact
    { params := by rw [hto.control]; exact h.params
      demand := by rw [hto.row0]; exact h.demand
      row0 := by rw [hto.row0]; exact h.row0
      rows := fun k => by rw [hrow]; exact h.rows k
      pulse1 := by rw [hto.control]; exact hto.pulse1_inRange h
      pulse2 := by rw [hto.control]; exact hto.pulse2_inRange h
      pairSpeed := hto.pairSpeed_within h
      analog := fun i => by rw [hrole]; exact hto.input_inRange h i
      wheel := by rw [hto.control]; exact hwheel
      arb := by rw [hto.control]; exact harb
      steer := by rw [hto.control]; exact hsteer
      ret := by rw [hto.control]; exact hret
      ch0 := by rw [hleast]; exact hch0
      ch1 := hch1
      unused1 := fun hother => hto.ch1_unused h (hrole ▸ hother)
      atRest := fun hrests => by
        rw [hto.control, hcomputes] at hrests
        exact absurd hrests nofun }

/-! ### SETUP -/

/-- A stored parameter lies in its range, and every other one stands (R161). -/
theorem ParamsInRange.setPar {p : ParamTable} (h : ParamsInRange p) {n : Nat} {row : ParamRow} (hrow : paramRow n = some row)
    {v : Int} (hv : within row.lo row.hi v) : ParamsInRange (setPar p n v) := by
  have hn := (paramRow_isSome_iff n).mp (by rw [hrow]; rfl)
  intro m
  cases hm : paramRow m with
  | none => trivial
  | some row' =>
    have hbounds := (paramRow_isSome_iff m).mp (by rw [hm]; rfl)
    by_cases hsame : m = n
    · subst hsame
      obtain rfl : row = row' := Option.some.inj (hrow.symm.trans hm)
      dsimp only
      rw [par_setPar_same p v hn]
      exact hv
    · have hother := h m
      rw [hm] at hother
      dsimp only at hother ⊢
      rw [par_setPar_other p v hn.1 hbounds.1 hsame]
      exact hother

/-- Where a station configures its roles rest, so that new parameters find them in range (R161). -/
theorem RangeInv.of_params (h : RangeInv s) (hrests : s.control.station.configures = true) {p : ParamTable} (count : Nat)
    (hp : ParamsInRange p) {front : FrontEnd} (hpair : front.pairSpeed = s.front.pairSpeed)
    (hanalog : front.analog = s.front.analog) (hpulse1 : front.pulse1.InRange (parN p 11))
    (hpulse2 : front.pulse2.InRange (parN p 11)) :
    RangeInv { s with control := { s.control with params := p, setupCount := count }, front := front } := by
  have hstill : s.control.station.computes = false ∧ s.control.station ≠ .clash := by
    rcases s.control.station.configures_iff.mp hrests with hs | hs <;> rw [hs] <;> exact ⟨rfl, nofun⟩
  obtain ⟨hwheel, harb, hret, hsteer⟩ := h.atRest hstill.1 hstill.2
  obtain ⟨pulse1, pulse2, pair, fault, analog⟩ := front
  obtain rfl : pair = s.front.pairSpeed := hpair
  obtain rfl : analog = s.front.analog := hanalog
  exact
    { h with
      params := hp, pulse1 := hpulse1, pulse2 := hpulse2
      wheel := by rw [hwheel]; exact Wheel.reset_inRange hp
      arb := by rw [harb]; exact Arbitration.reset_inRange hp
      ret := by rw [hret]; exact Return.reset_inRange hp
      steer := by
        rw [hsteer]
        exact Steer.restarted_inRange h.steer }

theorem State.setupParam_rangeInv (h : RangeInv s) (hconfigures : s.control.station.configures = true) (n : Nat)
    (value : Half) : RangeInv (s.setupParam n value) := by
  cases hrow : paramRow n with
  | none =>
    rw [State.setupParam, hrow]
    exact h
  | some row =>
    have hworking : s.control.station.working = true := by
      rcases s.control.station.configures_iff.mp hconfigures with hs | hs <;> rw [hs] <;> rfl
    obtain ⟨v, hv⟩ : ∃ v, clamp row.lo row.hi (setupValue n value) = v := ⟨_, rfl⟩
    have hp : ParamsInRange (setPar s.control.params n v) :=
      h.params.setPar hrow (hv ▸ clamp_within (paramRow_ordered hrow) _)
    rw [State.setupParam_of_row hworking hrow, hv]
    obtain ⟨u, hu⟩ : ∃ u, s.settled n (setupValue n value) v = u := ⟨_, rfl⟩
    have hcontrol : u.control = { s.control with
        params := setPar s.control.params n v
        setupCount := if s.control.station = .setup then 0 else s.control.setupCount } := by rw [← hu]; rfl
    have hfront := u.stored_front n
    have hufront : u.front = s.front := by rw [← hu]; rfl
    rw [hu]
    rw [hcontrol, hufront] at hfront
    have hring (p : Pulse) (hpulse : p.InRange (parN s.control.params 11)) (hn : n ≠ 11) :
        p.InRange (parN (setPar s.control.params n v) 11) := by
      have hbounds := (paramRow_isSome_iff n).mp (by rw [hrow]; rfl)
      rw [parN, par_setPar_other _ v hbounds.1 (by decide) (Ne.symm hn)]
      exact hpulse
    have hstored : RangeInv { s with
        control := { s.control with
          params := setPar s.control.params n v
          setupCount := if s.control.station = .setup then 0 else s.control.setupCount }
        front := (u.stored n).front } := by
      by_cases hn : n = 11
      · rw [hfront, if_pos hn]
        exact h.of_params hconfigures _ hp rfl rfl (Pulse.cut_inRange h.pulse1 _) (Pulse.cut_inRange h.pulse2 _)
      · rw [hfront, if_neg hn]
        exact h.of_params hconfigures _ hp rfl rfl (hring _ h.pulse1 hn) (hring _ h.pulse2 hn)
    refine hstored.of_same ?_
    have hrest := u.stored_rest n
    rw [← hcontrol, hrest, ← hu]
    exact ⟨rfl, rfl, rfl, rfl, rfl, rfl, rfl, rfl, rfl, rfl⟩

/-! ### Every effect -/

theorem State.validate_rangeInv (h : RangeInv s) (hconfigures : s.control.station.configures = true) :
    RangeInv s.validate := by
  have hstill : s.control.station.computes = false ∧ s.control.station ≠ .clash := by
    rcases s.control.station.configures_iff.mp hconfigures with hs | hs <;> rw [hs] <;> exact ⟨rfl, nofun⟩
  rw [State.validate_frame]
  exact h.of_control s.validate_params s.validate_straps fun _ _ => hstill

theorem State.enterClash_rangeInv (h : RangeInv s) : RangeInv s.enterClash := by
  have hzeroed : RangeInv s.zero0 :=
    { h with ch0 := Channel.zero_inRange s.least0_nonpos }
  have hclash {u : State} (hu : RangeInv u) : RangeInv { u with control := { u.control with station := .clash } } :=
    { hu with atRest := fun _ hclash => absurd rfl hclash }
  unfold State.enterClash
  dsimp only
  split
  · exact (hclash hzeroed).of_same ⟨rfl, rfl, rfl, rfl, rfl, rfl, rfl, rfl, rfl, rfl⟩
  · exact (hclash h).of_same ⟨rfl, rfl, rfl, rfl, rfl, rfl, rfl, rfl, rfl, rfl⟩

theorem State.ownNumberHeard_rangeInv (h : RangeInv s) : RangeInv s.ownNumberHeard := by
  unfold State.ownNumberHeard
  split_ifs
  · exact s.enterClash_rangeInv h
  · exact h.of_same ⟨rfl, rfl, rfl, rfl, rfl, rfl, rfl, rfl, rfl, rfl⟩
  · exact h

theorem State.heard_rangeInv (h : RangeInv s) (n : Nibble) : RangeInv (s.heard n) :=
  h.of_same (by constructor <;> simp only [State.heard_control, State.heard_row0, State.heard_rows, State.heard_front,
    State.heard_wheel, State.heard_arb, State.heard_steer, State.heard_ret, State.heard_ch0, State.heard_ch1])

/-- What a command can do keeps every range. -/
theorem Effect.rangeInv {c : Instr} (heffect : Effect s c t) (h : RangeInv s) : RangeInv t := by
  cases heffect with
  | idle => exact h
  | powerOn => exact (s.powerOn_atReset _).rangeInv
  | stillHeld => exact h.of_same ⟨rfl, rfl, rfl, rfl, rfl, rfl, rfl, rfl, rfl, rfl⟩
  | released cause straps => exact ((s.powerOn_atReset _).readStraps straps).rangeInv
  | sampled input level =>
    cases input with
    | first => exact { h with pulse1 := Pulse.sample_inRange h.pulse1 _ _ }
    | second => exact { h with pulse2 := Pulse.sample_inRange h.pulse2 _ _ }
  | converted input raw =>
    refine { h with analog := fun i => ?_ }
    have hi := h.analog i
    rw [State.convert_input]
    split
    · next hsame =>
      subst hsame
      exact { hi with }
    · exact hi
  | expired => exact h.of_same (by constructor <;> simp [State.timerExpired])
  | computed =>
    cases hcomputes : s.control.station.computes with
    | false =>
      rw [State.computePoint_of_not_computes hcomputes]
      exact h.of_same ⟨rfl, rfl, rfl, rfl, rfl, rfl, rfl, rfl, rfl, rfl⟩
    | true => exact (State.computesTo hcomputes).rangeInv h hcomputes
  | started => exact h.of_same (by constructor <;> simp)
  | outbid slot running sending =>
    rw [State.outbid_frame sending]
    exact h.of_same ⟨rfl, rfl, rfl, rfl, rfl, rfl, rfl, rfl, rfl, rfl⟩
  | failed slot running sending =>
    have hempty : RangeInv (s.emptySlot .between) := h.of_same ⟨rfl, rfl, rfl, rfl, rfl, rfl, rfl, rfl, rfl, rfl⟩
    rcases State.failed_cases sending with ⟨-, he⟩ | ⟨-, he⟩ <;> rw [he]
    · exact State.takeMark_rangeInv hempty _ _
    · exact hempty.of_same (by constructor <;> simp)
  | sent slot running sending =>
    have hempty : RangeInv (s.emptySlot .between) := h.of_same ⟨rfl, rfl, rfl, rfl, rfl, rfl, rfl, rfl, rfl, rfl⟩
    rcases State.sent_cases sending with ⟨n, -, he⟩ | ⟨index, -, he⟩ | he <;> rw [he]
    · exact State.takeMark_rangeInv hempty _ _
    · exact hempty.of_same ⟨rfl, rfl, rfl, rfl, rfl, rfl, rfl, rfl, rfl, rfl⟩
    · exact hempty
  | discarded => exact h.of_same ⟨rfl, rfl, rfl, rfl, rfl, rfl, rfl, rfl, rfl, rfl⟩
  | clash =>
    exact State.ownNumberHeard_rangeInv (s := s.endTelegram)
      (h.of_same ⟨rfl, rfl, rfl, rfl, rfl, rfl, rfl, rfl, rfl, rfl⟩)
  | heard _ source => exact State.heard_rangeInv h source
  | mark source target period => exact State.takeMark_rangeInv (State.heard_rangeInv h source) _ _
  | countHalt source =>
    exact (State.heard_rangeInv h source).of_same ⟨rfl, rfl, rfl, rfl, rfl, rfl, rfl, rfl, rfl, rfl⟩
  | report source target content hears reaches =>
    have hsource := nibble_station ((s.deliversStation_iff source target).mp reaches).1
    exact State.takeReport_rangeInv (State.heard_rangeInv h source) hsource content
  | countThaw source => exact (State.heard_rangeInv h source).of_same ⟨rfl, rfl, rfl, rfl, rfl, rfl, rfl, rfl, rfl, rfl⟩
  | demand source target fields => exact State.takeDemand_rangeInv (State.heard_rangeInv h source) fields
  | flagClear source => exact (State.heard_rangeInv h source).of_same ⟨rfl, rfl, rfl, rfl, rfl, rfl, rfl, rfl, rfl, rfl⟩
  | countLoad source target index value =>
    obtain ⟨duty, outbound, he⟩ := (s.heard source).takeLoad_frame index value
    rw [he]
    exact (State.heard_rangeInv h source).of_same ⟨rfl, rfl, rfl, rfl, rfl, rfl, rfl, rfl, rfl, rfl⟩
  | countQuery source target index =>
    obtain ⟨outbound, he⟩ := (s.heard source).takeQuery_frame index
    rw [he]
    exact (State.heard_rangeInv h source).of_same ⟨rfl, rfl, rfl, rfl, rfl, rfl, rfl, rfl, rfl, rfl⟩
  | setup source target param value hears reaches =>
    have hconfigures := ((s.deliversSetup_iff source target).mp reaches).2.2
    exact State.setupParam_rangeInv (State.heard_rangeInv h source) (by rw [State.heard_control]; exact hconfigures) _ _
  | setupClose source target hears reaches =>
    have hconfigures := ((s.deliversSetup_iff source target).mp reaches).2.2
    exact State.validate_rangeInv (State.heard_rangeInv h source) (by rw [State.heard_control]; exact hconfigures)
  | restart source target straps =>
    exact ((State.restarted_atReset (State.heard_rangeInv h source)).readStraps straps).rangeInv

end

/-- Settles O43: what every effect keeps, every step keeps; the ranges do not look at the queue. -/
theorem stepKeepsRanges : Obligations.StepKeepsRanges :=
  step_keeps (fun _ _ h => h.of_same ⟨rfl, rfl, rfl, rfl, rfl, rfl, rfl, rfl, rfl, rfl⟩) fun _ _ _ h heffect =>
    heffect.rangeInv h

end Sys2Proof.Machine

/-! ## Station state, straps, timers and list in step

The station invariant is taken apart by station state: a working station (SETUP, CONFIG FAULT, READY, ACTIVE), one that
stands in CLASH or STRAP FAULT, and one held in reset. Settlements of O39 and O42. -/

namespace Sys2Proof.Machine

/-! ### Station control -/

/-- The check that the parameters of `c` fail for a role, none where they pass all (R162). -/
def Control.failingFor (c : Control) (r : Role) : Option Nat :=
  (({ State.reset with control := c } : State).asRole r).firstFailing

theorem State.firstFailing_congr {s t : State} (hparams : t.control.params = s.control.params) (hrole : t.role = s.role) :
    t.firstFailing = s.firstFailing := by
  have hparam (n : Nat) : t.param n = s.param n := by rw [State.param, State.param, hparams]
  rw [State.firstFailing_eq, State.firstFailing_eq]
  simp only [hparam, hrole]

theorem State.asRole_firstFailing (s : State) (r : Role) : (s.asRole r).firstFailing = s.control.failingFor r :=
  State.firstFailing_congr rfl rfl

theorem Control.failingFor_congr {c d : Control} (h : d.params = c.params) (r : Role) : d.failingFor r = c.failingFor r :=
  State.firstFailing_congr h (by cases r <;> rfl)

/-- The checks of a station are those for its role. -/
theorem State.failingFor_role {s : State} {r : Role} (h : s.role = some r) : s.control.failingFor r = s.firstFailing :=
  State.firstFailing_congr rfl (h.trans (by cases r <;> rfl)).symm

/-- A settled station has a validated role, for which its parameters pass every check (R162). -/
def Control.Checked (c : Control) : Prop := c.settled = true → ∃ r, c.validatedRole = some r ∧ c.failingFor r = none

/-- What the invariant says of station control alone. -/
structure Control.Sound (c : Control) : Prop where
  straps : c.station.watches = true → strapsValid c.straps = true
  settled : c.station.computes = true → c.settled = true ∧ c.validatedRole = roleOfCode c.straps.role
  unsettled : c.station.configures = true → c.settled = false
  checked : c.Checked
  window : c.station = .setup → c.setupCount < 300

theorem StationInv.control_sound {s : State} (h : StationInv s) : s.control.Sound where
  straps := h.straps
  settled := h.settled
  unsettled := h.unsettled
  checked hsettled := by
    obtain ⟨r, hr, hpasses⟩ := h.checked hsettled
    exact ⟨r, hr, (s.asRole_firstFailing r).symm.trans hpasses⟩
  window := h.window

theorem Control.Checked.state {s : State} (h : s.control.Checked) (hsettled : s.control.settled = true) :
    ∃ r, s.control.validatedRole = some r ∧ (s.asRole r).firstFailing = none := by
  obtain ⟨r, hr, hpasses⟩ := h hsettled
  exact ⟨r, hr, (s.asRole_firstFailing r).trans hpasses⟩

/-- Valid straps name a role (R159). -/
theorem role_of_strapsValid {st : Straps} (h : strapsValid st = true) : ∃ r, roleOfCode st.role = some r := by
  unfold strapsValid at h
  exact Option.isSome_iff_exists.mp (Bool.and_eq_true_iff.mp h).2

theorem number_of_strapsValid {st : Straps} (h : strapsValid st = true) : st.number ≠ 15 := ((strapsValid_iff st).mp h).2.1

/-- Validation records the role it checked, or leaves the settled flag clear (R162). -/
theorem State.validate_sound {s : State} (hstraps : strapsValid s.control.straps = true) : s.validate.control.Sound := by
  rcases s.validate_cases with ⟨hpasses, he⟩ | ⟨n, -, he⟩ <;> rw [he]
  · obtain ⟨r, hr⟩ := role_of_strapsValid hstraps
    have hchecked : ({ s.control with settled := true, validatedRole := s.role, station := .ready } : Control).Checked :=
      fun _ => ⟨r, hr, (Control.failingFor_congr rfl r).trans ((State.failingFor_role hr).trans hpasses)⟩
    exact
      { straps := fun _ => hstraps, settled := fun _ => ⟨rfl, rfl⟩, unsettled := nofun, checked := hchecked, window := nofun }
  · exact { straps := fun _ => hstraps, settled := nofun, unsettled := fun _ => rfl, checked := nofun, window := nofun }

/-! ### A working station -/

/-- The station invariant of a station in SETUP, CONFIG FAULT, READY or ACTIVE. -/
structure State.WorkingInv (s : State) : Prop where
  running : s.inReset = false
  working : s.control.station.working = true
  control : s.control.Sound
  periodTimer : s.marker.periodTimer.isSome = true
  demandHeld : s.control.station = .active → s.row0 ≠ .never
  ownRow : s.row s.number.toNat = .never
  halting : s.duty.frozen = true ↔ s.duty.halting ≠ 15
  isolation : s.line.isolation ≤ 3
  health : s.line.health = .isolated ↔ s.line.isolation = 3

theorem StationInv.workingInv {s : State} (h : StationInv s) (running : s.inReset = false)
    (working : s.control.station.working = true) : s.WorkingInv where
  running := running
  working := working
  control := h.control_sound
  periodTimer := h.periodTimer.trans working
  demandHeld := h.demandHeld
  ownRow := h.ownRow
  halting := h.halting
  isolation := h.isolation
  health := h.health

theorem StationState.of_working {st : StationState} (h : st.working = true) :
    st ≠ .starting ∧ st ≠ .clash ∧ st.watches = true := by
  rcases (StationState.working_iff st).mp h with rfl | rfl | rfl | rfl <;> decide

namespace State.WorkingInv

variable {s t : State}

theorem stationInv (h : s.WorkingInv) : StationInv s := by
  obtain ⟨hstarting, hclash, hwatches⟩ := StationState.of_working h.working
  exact
    { starting := by simp [h.running, hstarting]
      heldAtPowerOn := fun hreset => absurd (h.running.symm.trans hreset) nofun
      straps := h.control.straps
      settled := h.control.settled
      unsettled := h.control.unsettled
      checked := h.control.checked.state
      window := h.control.window
      periodTimer := h.periodTimer.trans h.working.symm
      computeTimer := fun _ => h.working
      demandHeld := h.demandHeld
      ownRow := h.ownRow
      silent := fun hsilent => absurd (hwatches.symm.trans hsilent) nofun
      clashList := fun hc => absurd hc hclash
      clashDrive := fun hc => absurd hc hclash
      halting := h.halting
      isolation := h.isolation
      health := h.health }

theorem strapsValid (h : s.WorkingInv) : strapsValid s.control.straps = true :=
  h.control.straps (StationState.of_working h.working).2.2

end State.WorkingInv

/-- `t` agrees with `s` on what the invariant of a working station reads. -/
structure State.SameWorking (s t : State) : Prop where
  hold : t.hold = s.hold
  control : t.control = s.control
  periodTimer : t.marker.periodTimer.isSome = s.marker.periodTimer.isSome
  row0 : t.row0 = s.row0
  rows : t.rows = s.rows
  frozen : t.duty.frozen = s.duty.frozen
  halting : t.duty.halting = s.duty.halting
  isolation : t.line.isolation = s.line.isolation
  health : t.line.health = s.line.health

namespace State.WorkingInv

variable {s t : State}

theorem of_same (h : s.WorkingInv) (hsame : s.SameWorking t) : t.WorkingInv := by
  obtain ⟨hhold, hcontrol, htimer, hrow0, hrows, hfrozen, hhalting, hisolation, hhealth⟩ := hsame
  have hreset : t.inReset = s.inReset := by rw [State.inReset, State.inReset, hhold]
  have hrow (n : Nat) : t.row n = s.row n := by rw [State.row, State.row, hrows]
  have hnumber : t.number = s.number := by rw [State.number, State.number, hcontrol]
  constructor
  all_goals simp only [hreset, hcontrol, htimer, hrow0, hrow, hnumber, hfrozen, hhalting, hisolation, hhealth]
  exacts [h.running, h.working, h.control, h.periodTimer, h.demandHeld, h.ownRow, h.halting, h.isolation, h.health]

theorem stationInv_of_same (h : s.WorkingInv) (hsame : s.SameWorking t) : StationInv t := (h.of_same hsame).stationInv

theorem emptySlot (h : s.WorkingInv) (r : Receiver) : (s.emptySlot r).WorkingInv :=
  h.of_same ⟨rfl, rfl, rfl, rfl, rfl, rfl, rfl, rfl, rfl⟩

/-- A telegram of another station connects the line (R20). -/
theorem heard (h : s.WorkingInv) (n : Nibble) : (s.heard n).WorkingInv := by
  unfold State.heard State.heardFrom
  split
  · exact h.of_same ⟨rfl, rfl, rfl, rfl, rfl, rfl, rfl, rfl, rfl⟩
  · exact { h with isolation := Nat.zero_le 3, health := by simp }

/-- The counters freeze by a station that is named (R149, R153). -/
theorem freezeOwn (h : s.WorkingInv) : s.freezeOwn.WorkingInv :=
  { h with halting := iff_of_true rfl (number_of_strapsValid h.strapsValid) }

theorem takeHalt (h : s.WorkingInv) {source : Nibble} (hsource : source ≠ 15) : (s.takeHalt source).WorkingInv := by
  refine { h with halting := ?_ }
  rw [State.takeHalt_duty]
  split
  · exact h.halting
  · exact iff_of_true rfl hsource

theorem takeThaw (h : s.WorkingInv) : s.takeThaw.WorkingInv := { h with halting := by simp }

/-- A REPORT of another number leaves the own row (R41, R43). -/
theorem takeReport (h : s.WorkingInv) {source : Nibble} (hother : source ≠ s.number) (hsource : 1 ≤ source.toNat)
    (r : Report) : (s.takeReport source.toNat r).WorkingInv := by
  have hne : s.number.toNat ≠ source.toNat := fun he => hother (BitVec.eq_of_toNat_eq he.symm)
  have hrow : (s.refreshRow source.toNat r).row s.number.toNat = .never :=
    (State.refreshRow_row_other s r hsource hne).trans h.ownRow
  unfold State.takeReport
  dsimp only
  split
  · exact { h with ownRow := hrow }
  · exact { h with ownRow := hrow }

/-- R160: the setup window counts below 300 or validates. -/
theorem mark_control {n : Half} (heffect : MarkEffect s n t) (h : s.WorkingInv) :
    t.control.Sound ∧ t.control.station.working = true ∧
      (t.control.station = .active → s.control.station = .active) := by
  rcases heffect.control_cases with ⟨-, he⟩ | ⟨hsetup, count, hcount, he⟩ | ⟨hsetup, count, he⟩
  · rw [he]
    exact ⟨h.control, h.working, id⟩
  · rw [he]
    exact ⟨{ h.control with window := fun _ => hcount }, h.working, id⟩
  · rw [he]
    obtain ⟨u, hu⟩ : ∃ u : State, { s with control := { s.control with setupCount := count } } = u := ⟨_, rfl⟩
    have hsound : u.validate.control.Sound := State.validate_sound (by rw [← hu]; exact h.strapsValid)
    rw [hu]
    rcases u.validate_cases with ⟨-, hv⟩ | ⟨k, -, hv⟩
    · refine ⟨hsound, ?_, fun hactive => ?_⟩
      · rw [hv]; rfl
      · rw [hv] at hactive; exact absurd hactive nofun
    · refine ⟨hsound, ?_, fun hactive => ?_⟩
      · rw [hv]; rfl
      · rw [hv] at hactive; exact absurd hactive nofun

theorem takeMark (h : s.WorkingInv) (origin : MarkOrigin) (n : Half) : (s.takeMark origin n).WorkingInv := by
  obtain ⟨heffect, hline⟩ := State.takeMark_effect h.working origin n
  obtain ⟨t, ht⟩ : ∃ t, s.takeMark origin n = t := ⟨_, rfl⟩
  rw [ht] at heffect hline ⊢
  obtain ⟨hsound, hworking, hactive⟩ := h.mark_control heffect
  obtain ⟨-, hhold, -, -, -, hduty⟩ := heffect.frame
  have hreset : t.inReset = s.inReset := by rw [State.inReset, State.inReset, hhold]
  have hnumber : t.number = s.number := by rw [State.number, State.number, heffect.straps]
  have hage := heffect.rows s.number.toNat
  rw [h.ownRow] at hage
  have hdemand (hs : s.control.station = .active) : t.row0 ≠ .never := by
    have hrow0 := heffect.row0
    cases hr : s.row0 with
    | never => exact absurd hr (h.demandHeld hs)
    | heard life age d =>
      rw [hr] at hrow0
      cases life <;> (rw [show t.row0 = _ from hrow0]; exact nofun)
  have hisolated : t.line.isolation ≤ 3 ∧ (t.line.health = .isolated ↔ t.line.isolation = 3) := by
    have hold := h.isolation
    have hhealth := h.health
    rw [hline]
    cases origin with
    | other => exact ⟨hold, hhealth⟩
    | own =>
      rw [Line.atMark_own]
      refine ⟨Nat.min_le_left _ _, ?_⟩
      dsimp only
      split
      · simp
        omega
      · rw [hhealth]
        omega
  exact
    { running := hreset.trans h.running
      working := hworking
      control := hsound
      periodTimer := by rw [heffect.marker]; rfl
      demandHeld := fun ht => hdemand (hactive ht)
      ownRow := by rw [hnumber]; exact hage
      halting := by rw [hduty]; exact h.halting
      isolation := hisolated.1
      health := hisolated.2 }

theorem computePoint (h : s.WorkingInv) : s.computePoint.WorkingInv := by
  cases hcomputes : s.control.station.computes with
  | false =>
    rw [State.computePoint_of_not_computes hcomputes]
    exact h.of_same ⟨rfl, rfl, rfl, rfl, rfl, rfl, rfl, rfl, rfl⟩
  | true =>
    have hto := State.computesTo hcomputes
    obtain ⟨-, hhold, hcontrol, hline, hrow0, hrows⟩ := hto.frame
    obtain ⟨counters, -, hduty⟩ := hto.duty
    exact h.of_same
      { hold := hhold, control := hcontrol, periodTimer := by rw [hto.marker], row0 := hrow0, rows := hrows
        frozen := by rw [hduty], halting := by rw [hduty], isolation := by rw [hline], health := by rw [hline] }

/-- A DEMAND leads a settled station to ACTIVE, and row 0 is heard (R42, R164). -/
theorem takeDemand (h : s.WorkingInv) (f : DemandFields) : (s.takeDemand f).WorkingInv := by
  cases hcomputes : s.control.station.computes with
  | false =>
    rw [State.takeDemand_of_not_computes hcomputes]
    exact { h with demandHeld := fun _ => nofun }
  | true =>
    obtain ⟨hsettled, hrole⟩ := h.control.settled hcomputes
    have hactive : ({ s.control with station := .active } : Control).Sound :=
      { h.control with
        straps := fun _ => h.strapsValid, settled := fun _ => ⟨hsettled, hrole⟩, unsettled := nofun, window := nofun }
    have hdemanded (d : DemandContent) : State.WorkingInv { s with
        control := { s.control with station := .active }, row0 := .heard .fresh 0 d } :=
      { h with working := rfl, control := hactive, demandHeld := fun _ => nofun }
    refine (hdemanded (handleDemand s.directionBefore f)).of_same ?_
    rw [State.takeDemand_of_computes hcomputes]
    constructor <;> simp

theorem takeLoad (h : s.WorkingInv) (index : Byte) (v : Quad) : (s.takeLoad index v).WorkingInv := by
  unfold State.takeLoad
  split
  · exact h.of_same (by constructor <;> simp)
  · split
    · exact h.of_same (by constructor <;> simp [Duty.update])
    · exact h.of_same (by constructor <;> simp)

/-- SETUP leaves the station unsettled and in its state (R161). -/
theorem setupParam (h : s.WorkingInv) (hconfigures : s.control.station.configures = true) (n : Nat) (value : Half) :
    (s.setupParam n value).WorkingInv := by
  cases hrow : paramRow n with
  | none =>
    rw [State.setupParam, hrow]
    exact h
  | some row =>
    have hunsettled := h.control.unsettled hconfigures
    obtain ⟨v, hv⟩ : ∃ v, clamp row.lo row.hi (setupValue n value) = v := ⟨_, rfl⟩
    have hsound : ({ s.control with
        params := setPar s.control.params n v
        setupCount := if s.control.station = .setup then 0 else s.control.setupCount } : Control).Sound :=
      { h.control with
        checked := fun hsettled => absurd (hunsettled.symm.trans hsettled) nofun
        window := fun hsetup => by
          change (if s.control.station = .setup then 0 else s.control.setupCount) < 300
          rw [if_pos hsetup]
          decide }
    have hstored : State.WorkingInv { s with control := { s.control with
        params := setPar s.control.params n v
        setupCount := if s.control.station = .setup then 0 else s.control.setupCount } } := { h with control := hsound }
    rw [State.setupParam_of_row h.working hrow, hv]
    obtain ⟨u, hu⟩ : ∃ u, s.settled n (setupValue n value) v = u := ⟨_, rfl⟩
    have hbounds := (paramRow_isSome_iff n).mp (by rw [hrow]; rfl)
    have hduty := (u.stored_duty hbounds.2).1
    rw [hu]
    refine hstored.of_same ?_
    rw [u.stored_rest n, hduty, ← hu]
    exact ⟨rfl, rfl, rfl, rfl, rfl, rfl, rfl, rfl, rfl⟩

theorem validate (h : s.WorkingInv) : s.validate.WorkingInv := by
  have hsound := State.validate_sound h.strapsValid
  rcases s.validate_cases with ⟨-, he⟩ | ⟨n, -, he⟩ <;> (rw [he] at hsound ⊢)
  · exact { h with working := rfl, control := hsound, demandHeld := nofun }
  · exact { h with working := rfl, control := hsound, demandHeld := nofun }

/-- Entry to CLASH leaves the clash notice alone in the list and stops the timers (R19, R23, R36). -/
theorem enterClash (h : s.WorkingInv) (hslot : s.line.slot = none) : StationInv s.enterClash := by
  have hcontrol : s.enterClash.control = { s.control with station := .clash } := rfl
  have hrow (n : Nat) : s.enterClash.row n = s.row n := by rw [State.row, State.row, State.enterClash_rows]
  have hreset : s.enterClash.inReset = false := by
    rw [State.inReset, State.enterClash_hold]
    exact h.running
  have hheld : s.enterClash.held = [⟨s.clashNotice, s.outbound.nextStamp, 0⟩] := by
    rw [State.held, State.enterClash_line, hslot]
    rfl
  have hchecked : ({ s.control with station := .clash } : Control).Checked := h.control.checked
  exact
    { starting := by simp [hreset, hcontrol]
      heldAtPowerOn := fun hheld => absurd (hreset.symm.trans hheld) nofun
      straps := fun _ => h.strapsValid
      settled := nofun
      unsettled := nofun
      checked := hchecked.state (s := s.enterClash)
      window := nofun
      periodTimer := rfl
      computeTimer := nofun
      demandHeld := nofun
      ownRow := (hrow _).trans h.ownRow
      silent := nofun
      clashList := fun _ e he => by
        rw [hheld, List.mem_singleton] at he
        rw [he]
        rfl
      clashDrive := fun _ hrole => by
        have hwheel : s.role = some .wheel := hrole
        rw [State.enterClash, if_pos hwheel]
        rfl
      halting := by rw [State.enterClash_duty]; exact h.halting
      isolation := by rw [State.enterClash_line]; exact h.isolation
      health := by rw [State.enterClash_line]; exact h.health }

end State.WorkingInv

/-! ### The resets -/

theorem Duty.reset_halting : Duty.reset.frozen = true ↔ Duty.reset.halting ≠ 15 := by decide

theorem Line.reset_health : Line.reset.health = .isolated ↔ Line.reset.isolation = 3 := by decide

/-- A part held in reset stands at its power-on values (R168). -/
theorem stationInv_of_held (pending : List Instr) {hold : ResetHold} (h : (hold.supply || hold.pin) = true) :
    StationInv { State.reset with pending := pending, hold := hold } where
  starting := iff_of_true h rfl
  heldAtPowerOn _ := rfl
  straps := nofun
  settled := nofun
  unsettled := nofun
  checked := nofun
  window := nofun
  periodTimer := rfl
  computeTimer := nofun
  demandHeld := nofun
  ownRow := State.reset_row _
  silent _ := ⟨rfl, rfl⟩
  clashList := nofun
  clashDrive := nofun
  halting := Duty.reset_halting
  isolation := Nat.zero_le 3
  health := Line.reset_health

/-- The station that reads its straps: out of reset, lines, timers, rows and freeze state at their reset values, its settled
flag from before a RESTART or clear (R159, R167, R168). -/
structure State.Starts (s : State) : Prop where
  running : s.inReset = false
  line : s.line = Line.reset
  outbound : s.outbound = Outbound.reset
  marker : s.marker = Marker.reset
  rows : ∀ n, s.row n = .never
  duty : s.duty.frozen = false ∧ s.duty.halting = 15
  checked : s.control.Checked

theorem State.powerOn_starts (s : State) {hold : ResetHold} (h : (hold.supply || hold.pin) = false) :
    (s.powerOn hold).Starts := ⟨h, rfl, rfl, rfl, State.reset_row, ⟨rfl, rfl⟩, nofun⟩

theorem State.restarted_starts {s : State} (running : s.inReset = false) (h : s.control.Checked) : s.restarted.Starts :=
  ⟨running, rfl, rfl, rfl, State.reset_row, ⟨rfl, rfl⟩, h⟩

/-- Reading the straps keeps the settled flag for the validated role alone (R162). -/
theorem settledAfter_checked {c : Control} (h : c.Checked) {straps : Straps} (hsettled : settledAfter c straps = true) :
    ∃ r, c.validatedRole = some r ∧ c.failingFor r = none := h (Bool.and_eq_true_iff.mp hsettled).1

namespace State.Starts

variable {s : State} (h : s.Starts)

include h

/-- Valid straps lead to READY or SETUP with the period timer running (R159). -/
theorem readStraps_valid {straps : Straps} (hvalid : strapsValid straps = true) : (s.readStraps straps).WorkingInv := by
  obtain ⟨hfrozen, hhalting⟩ := h.duty
  obtain ⟨r, hr⟩ := role_of_strapsValid hvalid
  have hafter := settledAfter_of_role (c := s.control) hr
  have hsound : ({ s.control with
      straps := straps, settled := settledAfter s.control straps, setupCount := 0
      station := if settledAfter s.control straps then .ready else .setup } : Control).Sound ∧
      (if settledAfter s.control straps then StationState.ready else .setup).working = true ∧
      (if settledAfter s.control straps then StationState.ready else .setup) ≠ .active := by
    cases hsettled : settledAfter s.control straps with
    | true =>
      obtain ⟨-, hrole⟩ := Bool.and_eq_true_iff.mp (hafter.symm.trans hsettled)
      have hchecked := settledAfter_checked h.checked hsettled
      exact
        ⟨{ straps := fun _ => hvalid, settled := fun _ => ⟨rfl, (eq_of_beq hrole).trans hr.symm⟩, unsettled := nofun
           checked := fun _ => hchecked, window := nofun }, rfl, nofun⟩
    | false =>
      exact
        ⟨{ straps := fun _ => hvalid, settled := nofun, unsettled := fun _ => rfl, checked := nofun
           window := fun _ => Nat.succ_pos 299 }, rfl, nofun⟩
  obtain ⟨hcontrol, hworking, hactive⟩ := hsound
  rw [s.readStraps_valid hvalid]
  exact
    { running := h.running
      working := hworking
      control := hcontrol
      periodTimer := rfl
      demandHeld := fun hs => absurd hs hactive
      ownRow := h.rows _
      halting := by dsimp only; rw [hfrozen, hhalting]; decide
      isolation := by dsimp only; rw [h.line]; exact Nat.zero_le 3
      health := by dsimp only; rw [h.line]; decide }

/-- Other straps lead to STRAP FAULT, which keeps silent (R159). -/
theorem readStraps_invalid {straps : Straps} (hvalid : strapsValid straps = false) :
    StationInv (s.readStraps straps) := by
  obtain ⟨hfrozen, hhalting⟩ := h.duty
  have hchecked : ({ s.control with
      straps := straps, settled := settledAfter s.control straps, station := .strapFault } : Control).Checked :=
    fun hsettled => settledAfter_checked (c := s.control) h.checked hsettled
  rw [s.readStraps_invalid hvalid]
  obtain ⟨t, ht⟩ : ∃ t : State, { s with control := { s.control with
      straps := straps, settled := settledAfter s.control straps, station := .strapFault } } = t := ⟨_, rfl⟩
  have hcontrol : t.control = { s.control with
      straps := straps, settled := settledAfter s.control straps, station := .strapFault } := by rw [← ht]
  have hstation : t.control.station = .strapFault := by rw [hcontrol]
  have hline : t.line = Line.reset := by rw [← ht]; exact h.line
  have houtbound : t.outbound = Outbound.reset := by rw [← ht]; exact h.outbound
  have hmarker : t.marker = Marker.reset := by rw [← ht]; exact h.marker
  have hreset : t.inReset = false := by rw [← ht]; exact h.running
  rw [← hcontrol] at hchecked
  rw [ht]
  exact
    { starting := by simp [hreset, hstation]
      heldAtPowerOn := fun hheld => absurd (hreset.symm.trans hheld) nofun
      straps := by rw [hstation]; exact nofun
      settled := by rw [hstation]; exact nofun
      unsettled := by rw [hstation]; exact nofun
      checked := hchecked.state
      window := by rw [hstation]; exact nofun
      periodTimer := by rw [hstation, hmarker]; rfl
      computeTimer := by rw [hmarker]; exact nofun
      demandHeld := by rw [hstation]; exact nofun
      ownRow := by rw [← ht]; exact h.rows _
      silent := fun _ => by rw [hline, houtbound]; exact ⟨rfl, rfl⟩
      clashList := by rw [hstation]; exact nofun
      clashDrive := by rw [hstation]; exact nofun
      halting := by rw [← ht]; dsimp only; rw [hfrozen, hhalting]; decide
      isolation := by rw [hline]; exact Nat.zero_le 3
      health := by rw [hline]; decide }

theorem readStraps (straps : Straps) : StationInv (s.readStraps straps) := by
  cases hvalid : strapsValid straps with
  | true => exact (h.readStraps_valid hvalid).stationInv
  | false => exact h.readStraps_invalid hvalid

end State.Starts

/-! ### What a working station can do -/

theorem Effect.working {s t : State} {c : Instr} (heffect : Effect s c t) (h : s.WorkingInv) : StationInv t := by
  have hwatches : s.control.station.watches = true := (StationState.of_working h.working).2.2
  cases heffect with
  | idle => exact h.stationInv
  | powerOn cause => exact stationInv_of_held _ (s.hold.begin_holds cause)
  | stillHeld cause straps reset | released cause straps reset => exact absurd (h.running.symm.trans reset) nofun
  | sampled | converted => exact h.stationInv_of_same (by constructor <;> simp)
  | expired =>
    exact h.stationInv_of_same (by constructor <;> simp [State.timerExpired, h.periodTimer])
  | computed => exact h.computePoint.stationInv
  | started =>
    unfold State.tryStart State.loadSlot
    split
    · split <;> exact h.stationInv_of_same ⟨rfl, rfl, rfl, rfl, rfl, rfl, rfl, rfl, rfl⟩
    · exact h.stationInv
  | outbid slot running sending =>
    rw [State.outbid_frame sending]
    exact h.stationInv_of_same ⟨rfl, rfl, rfl, rfl, rfl, rfl, rfl, rfl, rfl⟩
  | failed slot running sending =>
    have hempty := h.emptySlot .between
    rcases State.failed_cases sending with ⟨-, he⟩ | ⟨-, he⟩
    · rw [he]
      exact (hempty.takeMark _ _).stationInv
    · rcases (s.emptySlot .between).failEntry_cases slot.entry with ⟨-, he'⟩ | ⟨outbound, he'⟩
      · rw [he, he']
        exact hempty.freezeOwn.stationInv
      · rw [he, he']
        exact hempty.stationInv_of_same ⟨rfl, rfl, rfl, rfl, rfl, rfl, rfl, rfl, rfl⟩
  | sent slot running sending =>
    have hempty := h.emptySlot .between
    rcases State.sent_cases sending with ⟨n, -, he⟩ | ⟨index, -, he⟩ | he <;> rw [he]
    · exact (hempty.takeMark _ _).stationInv
    · exact hempty.freezeOwn.stationInv
    · exact hempty.stationInv
  | discarded => exact h.stationInv_of_same ⟨rfl, rfl, rfl, rfl, rfl, rfl, rfl, rfl, rfl⟩
  | clash _ receives =>
    have hended : s.endTelegram.WorkingInv := h.of_same ⟨rfl, rfl, rfl, rfl, rfl, rfl, rfl, rfl, rfl⟩
    have hslot : s.endTelegram.line.slot = none := (s.receives_iff.mp receives).2.2
    rw [State.ownNumberHeard, if_pos hended.working]
    exact hended.enterClash hslot
  | heard _ source => exact (h.heard source).stationInv
  | mark source target period => exact ((h.heard source).takeMark _ _).stationInv
  | countHalt source target index hears reaches =>
    exact ((h.heard source).takeHalt ((s.deliversStation_iff source target).mp reaches).1.2).stationInv
  | report source target content hears reaches =>
    have hother : source ≠ s.number := fun he => hears.noClash ⟨hwatches, he⟩
    have hsource := nibble_station ((s.deliversStation_iff source target).mp reaches).1
    exact ((h.heard source).takeReport (by rw [State.number, State.heard_control]; exact hother) hsource.1 _).stationInv
  | countThaw source => exact (h.heard source).takeThaw.stationInv
  | demand source target fields => exact ((h.heard source).takeDemand fields).stationInv
  | flagClear source => exact (h.heard source).stationInv_of_same ⟨rfl, rfl, rfl, rfl, rfl, rfl, rfl, rfl, rfl⟩
  | countLoad source target index value => exact ((h.heard source).takeLoad index value).stationInv
  | countQuery source target index =>
    obtain ⟨outbound, he⟩ := (s.heard source).takeQuery_frame index
    rw [he]
    exact (h.heard source).stationInv_of_same ⟨rfl, rfl, rfl, rfl, rfl, rfl, rfl, rfl, rfl⟩
  | setup source target param value hears reaches =>
    have hconfigures := ((s.deliversSetup_iff source target).mp reaches).2.2
    exact ((h.heard source).setupParam (by rw [State.heard_control]; exact hconfigures) _ _).stationInv
  | setupClose source => exact (h.heard source).validate.stationInv
  | restart source target straps =>
    rw [State.restart_heard]
    exact (State.restarted_starts h.running h.control.checked).readStraps straps

/-! ### What a station in CLASH or STRAP FAULT can do -/

/-- `t` agrees with `s` on what the invariant reads beside the line and the list. -/
structure State.SameStill (s t : State) : Prop where
  hold : t.hold = s.hold
  control : t.control = s.control
  marker : t.marker = s.marker
  row0 : t.row0 = s.row0
  rows : t.rows = s.rows
  ch0 : t.ch0 = s.ch0
  duty : t.duty = s.duty

/-- A running station whose line and list change keeps the invariant where they stay silent or hold the clash notice alone,
and where isolation count and line health agree. -/
theorem StationInv.of_still {s t : State} (h : StationInv s) (running : s.inReset = false) (hsame : s.SameStill t)
    (hsilent : s.control.station.watches = false → t.line.slot = none ∧ t.outbound.entries = [])
    (hclash : s.control.station = .clash → ∀ e ∈ t.held, e.content.key = .notice .stationClash)
    (hisolation : t.line.isolation ≤ 3) (hhealth : t.line.health = .isolated ↔ t.line.isolation = 3) : StationInv t := by
  obtain ⟨hhold, hcontrol, hmarker, hrow0, hrows, hch0, hduty⟩ := hsame
  have hreset : t.inReset = s.inReset := by rw [State.inReset, State.inReset, hhold]
  have hrow (n : Nat) : t.row n = s.row n := by rw [State.row, State.row, hrows]
  have hrole : t.role = s.role := by rw [State.role, State.role, hcontrol]
  have hnumber : t.number = s.number := by rw [State.number, State.number, hcontrol]
  have hchecked : t.control.Checked := by rw [hcontrol]; exact h.control_sound.checked
  exact
    { starting := by rw [hreset, hcontrol]; exact h.starting
      heldAtPowerOn := fun hheld => absurd (running.symm.trans (hreset.symm.trans hheld)) nofun
      straps := by rw [hcontrol]; exact h.straps
      settled := by rw [hcontrol, hrole]; exact h.settled
      unsettled := by rw [hcontrol]; exact h.unsettled
      checked := hchecked.state
      window := by rw [hcontrol]; exact h.window
      periodTimer := by rw [hmarker, hcontrol]; exact h.periodTimer
      computeTimer := by rw [hmarker, hcontrol]; exact h.computeTimer
      demandHeld := by rw [hcontrol, hrow0]; exact h.demandHeld
      ownRow := by rw [hrow, hnumber]; exact h.ownRow
      silent := by rw [hcontrol]; exact hsilent
      clashList := by rw [hcontrol]; exact hclash
      clashDrive := by rw [hcontrol, hrole, hch0]; exact h.clashDrive
      halting := by rw [hduty]; exact h.halting
      isolation := hisolation
      health := hhealth }

/-! The list of a station in CLASH holds entries of one key. -/

/-- Every entry has the key `k`. -/
def KeysAre (k : Key) (l : List Entry) : Prop := ∀ e ∈ l, e.content.key = k

theorem KeysAre.giveBack {k : Key} {o : Outbound} (h : KeysAre k o.entries) {e : Entry} (he : e.content.key = k) :
    KeysAre k (o.giveBack e).entries := by
  intro x hx
  rcases o.giveBack_cases e with ⟨-, hg⟩ | ⟨p, hp, hkey, hg⟩ <;> (rw [hg] at hx; dsimp only at hx)
  · rcases mem_insertEntry.mp hx with rfl | hx
    · exact he
    · exact h x hx
  · rcases mem_insertEntry.mp hx with rfl | hx
    · exact (Content.coalesce_key hkey.symm).trans (hkey.trans he)
    · exact h x (mem_dropKey.mp hx).1

theorem KeysAre.offer {k : Key} {o : Outbound} (h : KeysAre k o.entries) {c : Content} (hc : c.key = k) :
    KeysAre k (o.offer c).entries := by
  intro x hx
  rcases o.offer_cases c with ⟨-, ho⟩ | ⟨-, ho⟩ <;> (rw [ho] at hx; dsimp only at hx)
  · rcases mem_insertEntry.mp hx with rfl | hx
    · exact hc
    · exact h x hx
  · obtain ⟨e, he, rfl⟩ := List.mem_map.mp hx
    rw [Entry.absorb_key]
    exact h e he

theorem State.held_of_slot {s : State} {slot : Slot} (h : s.line.slot = some slot) :
    s.held = slot.entry :: s.outbound.entries := by
  rw [State.held, h]
  rfl

theorem State.held_of_no_slot {s : State} (h : s.line.slot = none) : s.held = s.outbound.entries := by
  rw [State.held, h]
  rfl

/-- An attempt takes its entry from the list (R6). -/
theorem State.tryStart_held (s : State) : s.tryStart.held = s.held := by
  unfold State.tryStart
  split
  · next hfree =>
    rw [State.held_of_no_slot hfree.1]
    unfold State.loadSlot
    split
    · next hempty => rw [State.held_of_no_slot hfree.1, hempty]
    · next e rest hentries => rw [hentries]; rfl
  · rfl

/-- An outcome of the clash notice leaves only entries of its key (R7 to R9). -/
theorem State.outcome_keys {s : State} {slot : Slot} (hslot : s.line.slot = some slot) {code : EventCode}
    (h : KeysAre (.notice code) s.held) :
    KeysAre (.notice code) s.outbid.held ∧ KeysAre (.notice code) s.failed.held ∧ KeysAre (.notice code) s.sent.held := by
  rw [State.held_of_slot hslot] at h
  have hentry : slot.entry.content.key = .notice code := h _ List.mem_cons_self
  have hlist : KeysAre (.notice code) s.outbound.entries := fun e he => h e (List.mem_cons_of_mem _ he)
  refine ⟨?_, ?_, ?_⟩
  · rw [State.outbid_frame hslot, State.held_of_no_slot rfl]
    exact hlist.giveBack hentry
  · rcases State.failed_cases hslot with ⟨⟨n, hmark⟩, -⟩ | ⟨-, he⟩
    · exact absurd (hentry.symm.trans (congrArg Content.key hmark)) nofun
    · rw [he, State.held_of_no_slot (by rw [State.failEntry_line]; rfl)]
      unfold State.failEntry
      split
      · cases hcontent : slot.entry.content with
        | countHalt index => exact absurd (hentry.symm.trans (congrArg Content.key hcontent)) nofun
        | mark | report | notice | countAnswer => exact hlist
      · exact hlist.giveBack hentry
  · rw [(State.outcome_of_notice hslot hentry).2, State.held_of_no_slot rfl]
    exact hlist

/-- An own number heard in CLASH counts up the clash notice, where that is pending (R19). -/
theorem State.clashAgain_keys {s : State} (h : KeysAre (.notice .stationClash) s.held) :
    KeysAre (.notice .stationClash) s.clashAgain.held := by
  intro e he
  rcases List.mem_append.mp he with hslot | hlist
  · exact h e (List.mem_append_left _ hslot)
  · have hkeys : KeysAre (.notice .stationClash) s.outbound.entries := fun e he => h e (List.mem_append_right _ he)
    unfold State.clashAgain at hlist
    dsimp only at hlist
    split at hlist
    · exact hkeys.offer rfl e hlist
    · exact hkeys e hlist

/-- A running station in CLASH or STRAP FAULT keeps the invariant, and leaves its state by RESTART or a power-on reset
alone (R159, R19). -/
theorem StationInv.still {s t : State} {c : Instr} (h : StationInv s) (running : s.inReset = false)
    (hworking : s.control.station.working = false) (heffect : Effect s c t) : StationInv t := by
  have hperiod : s.marker.periodTimer = none := by
    have hp := h.periodTimer
    rw [hworking] at hp
    exact Option.not_isSome_iff_eq_none.mp (by rw [hp]; decide)
  have hcompute : s.marker.computeTimer = none :=
    Option.not_isSome_iff_eq_none.mp fun hc => absurd (hworking.symm.trans (h.computeTimer hc)) nofun
  have hclash : s.control.station.watches = true → s.control.station = .clash := fun hw =>
    ((StationState.watches_iff _).mp hw).resolve_left fun hw => absurd (hworking.symm.trans hw) nofun
  have hsending {slot : Slot} (hslot : s.line.slot = some slot) : s.control.station.watches = true := by
    by_contra hsilent
    exact absurd ((h.silent (by simpa using hsilent)).1.symm.trans hslot) nofun
  -- an outcome of the attempt of a station in CLASH
  have houtcome {slot : Slot} (hslot : s.line.slot = some slot) {t : State} (hsame : s.SameStill t)
      (hkeys : KeysAre (.notice .stationClash) t.held) (hline : t.line.isolation = s.line.isolation)
      (hhealth : t.line.health = s.line.health) : StationInv t :=
    h.of_still running hsame (fun hsilent => absurd ((hsending hslot).symm.trans hsilent) nofun) (fun _ => hkeys)
      (hline ▸ h.isolation) (by rw [hline, hhealth]; exact h.health)
  cases heffect.still running hworking hperiod hcompute with
  | idle => exact h
  | powerOn cause => exact stationInv_of_held _ (s.hold.begin_holds cause)
  | sampled _ input level =>
    exact h.of_still running (by constructor <;> simp) (by simpa using h.silent) (by simpa [State.held] using h.clashList)
      (by simpa using h.isolation) (by simpa using h.health)
  | converted =>
    exact h.of_still running ⟨rfl, rfl, rfl, rfl, rfl, rfl, rfl⟩ h.silent h.clashList h.isolation h.health
  | started =>
    cases hwatches : s.control.station.watches with
    | false =>
      rw [State.tryStart_of_empty (h.silent hwatches).2]
      exact h
    | true =>
      have hline : s.tryStart.line.isolation = s.line.isolation ∧ s.tryStart.line.health = s.line.health := by
        unfold State.tryStart State.loadSlot
        split
        · split <;> exact ⟨rfl, rfl⟩
        · exact ⟨rfl, rfl⟩
      exact h.of_still running (by constructor <;> simp) (fun hsilent => absurd (hwatches.symm.trans hsilent) nofun)
        (by rw [State.tryStart_held]; exact h.clashList) (hline.1 ▸ h.isolation) (by rw [hline.1, hline.2]; exact h.health)
  | outbid _ slot sending =>
    have hkeys := (State.outcome_keys sending (h.clashList (hclash (hsending sending)))).1
    rw [State.outbid_frame sending] at hkeys ⊢
    exact houtcome sending ⟨rfl, rfl, rfl, rfl, rfl, rfl, rfl⟩ hkeys rfl rfl
  | failed _ slot sending =>
    have hlist := h.clashList (hclash (hsending sending))
    have hkeys := (State.outcome_keys sending hlist).2.1
    have hentry := hlist slot.entry (by rw [State.held_of_slot sending]; exact List.mem_cons_self)
    obtain ⟨⟨outbound, he⟩, -⟩ := State.outcome_of_notice sending hentry
    rw [he] at hkeys ⊢
    exact houtcome sending ⟨rfl, rfl, rfl, rfl, rfl, rfl, rfl⟩ hkeys rfl rfl
  | sent _ slot sending =>
    have hlist := h.clashList (hclash (hsending sending))
    have hkeys := (State.outcome_keys sending hlist).2.2
    have hentry := hlist slot.entry (by rw [State.held_of_slot sending]; exact List.mem_cons_self)
    rw [(State.outcome_of_notice sending hentry).2] at hkeys ⊢
    exact houtcome sending ⟨rfl, rfl, rfl, rfl, rfl, rfl, rfl⟩ hkeys rfl rfl
  | discarded =>
    exact h.of_still running ⟨rfl, rfl, rfl, rfl, rfl, rfl, rfl⟩ h.silent h.clashList h.isolation h.health
  | clash =>
    have hended : StationInv s.endTelegram :=
      h.of_still running ⟨rfl, rfl, rfl, rfl, rfl, rfl, rfl⟩ h.silent h.clashList h.isolation h.health
    by_cases hagain : s.control.station = .clash
    · rw [State.ownNumberHeard_of_clash (s := s.endTelegram) hagain]
      exact hended.of_still running ⟨rfl, rfl, rfl, rfl, rfl, rfl, rfl⟩
        (fun hsilent => by rw [State.endTelegram_control, hagain] at hsilent; exact absurd hsilent nofun)
        (fun _ => State.clashAgain_keys (hended.clashList hagain)) h.isolation h.health
    · have hother : s.endTelegram.ownNumberHeard = s.endTelegram := by
        rw [State.ownNumberHeard, State.endTelegram_control, hworking, if_neg Bool.false_ne_true, if_neg hagain]
      rw [hother]
      exact hended
  | heard _ source =>
    have hheld : (s.heard source).held = s.held := by rw [State.held, State.held, State.heard_slot, State.heard_outbound]
    have hline : (s.heard source).line.isolation ≤ 3 ∧
        ((s.heard source).line.health = .isolated ↔ (s.heard source).line.isolation = 3) := by
      unfold State.heard State.heardFrom
      split
      · exact ⟨h.isolation, h.health⟩
      · exact ⟨Nat.zero_le 3, by simp⟩
    exact h.of_still running (by constructor <;> simp) (by rw [State.heard_slot, State.heard_outbound]; exact h.silent)
      (by rw [hheld]; exact h.clashList) hline.1 hline.2
  | restart source target straps reaches =>
    rw [State.restart_heard]
    exact (State.restarted_starts running h.control_sound.checked).readStraps straps

/-- A held part stands at its power-on values until its last cause of reset ends (R168). -/
theorem StationInv.held {s t : State} {c : Instr} (h : StationInv s) (hreset : s.inReset = true) (heffect : Effect s c t) :
    StationInv t := by
  rcases heffect.of_reset hreset with rfl | ⟨cause, -, rfl⟩ | ⟨cause, straps, -, ⟨hleft, rfl⟩ | ⟨hleft, rfl⟩⟩
  · exact h
  · exact stationInv_of_held _ (s.hold.begin_holds cause)
  · rw [h.heldAtPowerOn hreset]
    exact stationInv_of_held _ hleft
  · exact (s.powerOn_starts hleft).readStraps straps

theorem Effect.stationInv {s t : State} {c : Instr} (heffect : Effect s c t) (h : StationInv s) : StationInv t := by
  cases hreset : s.inReset with
  | true => exact h.held hreset heffect
  | false =>
    cases hworking : s.control.station.working with
    | true => exact heffect.working (h.workingInv hreset hworking)
    | false => exact h.still hreset hworking heffect

/-- The invariant does not look at the queue, which stands free in a held part too. -/
theorem StationInv.of_queue {s : State} (h : StationInv s) (rest : List Instr) : StationInv { s with pending := rest } :=
  { h with heldAtPowerOn := fun hreset => by rw [h.heldAtPowerOn hreset] }

/-- Settles O42: what every effect keeps, every step keeps. -/
theorem stepKeepsStationInv : Obligations.StepKeepsStationInv :=
  step_keeps (fun _ rest h => h.of_queue rest) fun _ _ _ h heffect => heffect.stationInv h

/-- Settles O39. -/
theorem resetMeetsInvariants : Obligations.ResetMeetsInvariants :=
  ⟨listInv_of_reset rfl rfl, stationInv_of_held [] rfl, (State.reset.powerOn_atReset State.reset.hold).rangeInv⟩

end Sys2Proof.Machine
